-- ==== Sys2Proof/Word.lean ====
section
/-! DEFINITION. The two widths of this hardware (00_scope.md R8): the 8-bit byte and the 16-bit word. -/

namespace Sys2Proof

/-- An 8-bit value: a general register, a byte of memory, an opcode byte, an immediate `n`, a displacement `e` (R8). -/
abbrev Byte := BitVec 8

/-- A 16-bit value: a register pair, `PC`, `SP`, an address, an immediate `nn` (R8). -/
abbrev Word := BitVec 16

end Sys2Proof
end

