-- ==== Sys2Proof/Machine/Bits.lean ====
section
/-! DEFINITION. Byte order and width conversions (00_scope.md R10, R11; 20_memory.md R61; 30_encoding.md R84). -/

namespace Sys2Proof.Machine

/-- `v[15:8]` (R10). -/
def hiByte (v : Word) : Byte := v.extractLsb' 8 8

/-- `v[7:0]` (R10). -/
def loByte (v : Word) : Byte := v.extractLsb' 0 8

/-- `hi:lo = (hi << 8) | lo` (R10, R22, R58: combined with OR, never AND). -/
def joinBytes (hi lo : Byte) : Word := (hi.setWidth 16 <<< 8) ||| lo.setWidth 16

/-- `sext_16(e)` (R11): the 16-bit two's-complement pattern of the signed displacement `e`. -/
def sext16 (e : Byte) : Word := e.signExtend 16

/-- The address `0xFF00 | n` of the `LDH` and `(C)` forms (R84, R121–R124). -/
def highPage (n : Byte) : Word := 0xFF00#16 ||| n.setWidth 16

/-- The restart target `t = y * 8` of R264 as a 16-bit address. -/
def restartVector (y : Fin 8) : Word := BitVec.ofNat 16 (y.val * 8)

end Sys2Proof.Machine
end

