-- ==== Sys2Proof/Machine/Names.lean ====
section
/-! DEFINITION. The names the spec gives registers, operands, flags and conditions (10_state.md R20, R22, R25;
30_encoding.md R90–R93; 42_alu8.md R162; 45_rotate_shift.md R225–R232), each as a closed type. -/

namespace Sys2Proof.Machine

/-- The seven 8-bit registers an operand code can name (R90 without code 6): every register of R20 but `F`. -/
inductive Reg where
  | b | c | d | e | h | l | a
deriving DecidableEq, Repr

/-- The 8-bit operand `r8(c)` of R90: a register, or code 6, the memory byte at `HL` (R94). -/
inductive Operand8 where
  | reg (r : Reg)
  | atHL
deriving DecidableEq, Repr

/-- The 16-bit register `r16(p)` of R91. -/
inductive Reg16 where
  | bc | de | hl | sp
deriving DecidableEq, Repr

/-- The register pairs of R22, which are also the operands `r16stk(p)` of `PUSH` and `POP` (R92). -/
inductive Pair where
  | bc | de | hl | af
deriving DecidableEq, Repr

/-- The four flags of `F` (R25). -/
inductive Flag where
  | z | n | h | c
deriving DecidableEq, Repr

/-- The four conditions of R93. -/
inductive Cond where
  | nz | z | nc | c
deriving DecidableEq, Repr

/-- The eight accumulator operations selected by `y` (R162). -/
inductive AluOp where
  | add | adc | sub | sbc | and | xor | or | cp
deriving DecidableEq, Repr

/-- The eight rotates and shifts of the CB page selected by `y` (R96). -/
inductive ShiftOp where
  | rlc | rrc | rl | rr | sla | sra | swap | srl
deriving DecidableEq, Repr

/-- The four regions of the address space (20_memory.md R51). -/
inductive Region where
  | rom | vram | internalRam | highRam
deriving DecidableEq, Repr

end Sys2Proof.Machine
end

