-- ==== Sys2Proof/Config.lean ====
section
/-! DEFINITION. The configurable parameters of the core (00_scope.md R9; 92_eei_decisions.md D1, D2, D3, D4, D6, D12).
The spec leaves no value undefined, so there is no free value here. -/

namespace Sys2Proof

/-- `CB_PAGE` (R9, R96, D1): whether the page behind the byte 0xCB is populated. -/
inductive CbPage where
  | populated
  | absent
deriving DecidableEq, Repr

/-- `SP_OFFSET_FLAGS` (R9, R193, D2, D3): the flag rule of `ADD SP,e` and `LD HL,SP+e`. -/
inductive SpOffsetFlags where
  | doc16Bit
  | lr35902Bits8
deriving DecidableEq, Repr

/-- `BOOT_PROFILE` (R9, R37, D4): the register values at construction. -/
inductive BootProfile where
  | dmgPostBoot
  | zero
deriving DecidableEq, Repr

/-- `STOP_LENGTH` (R9, R80, R202, D12): the length of `STOP` in bytes. -/
inductive StopLength where
  | one
  | two
deriving DecidableEq, Repr

/-- The configuration a core is constructed with (R9).
`romEnd` is the last address of the ROM region; R51 bounds it to 0x0000..0x9FFE, which is what `Fin 0x9FFF` says. -/
structure Config where
  cbPage        : CbPage
  spOffsetFlags : SpOffsetFlags
  bootProfile   : BootProfile
  stopLength    : StopLength
  romEnd        : Fin 0x9FFF
deriving DecidableEq, Repr

/-- The defaults of R9. -/
def Config.default : Config :=
  { cbPage := .populated
    spOffsetFlags := .doc16Bit
    bootProfile := .dmgPostBoot
    stopLength := .two
    romEnd := 0x7FFF }

end Sys2Proof
end

