-- ==== Sys2Proof/Machine/State.lean ====
section
/-! DEFINITION. The state of the core as plain data (10_state.md), the reasons a step could stop, and the state at
construction, which is this core's only reset (70_reset_and_hazards.md R330). -/

namespace Sys2Proof.Machine

/-- The sequencer's mode (R31). -/
inductive Mode where
  | running
  | halted
  | faulted
deriving DecidableEq, Repr

/-- `HALT_CAUSE` (R33): which instruction entered `Halted`. -/
inductive HaltCause where
  | none
  | halt
  | stop
deriving DecidableEq, Repr

/-- The causes a `FAULT` record can name (R34): DecodeError is the only one the core raises (R304). -/
inductive FaultCause where
  | decodeError
deriving DecidableEq, Repr

/-- The `FAULT` record of R34: the cause, the address of the failing instruction's first byte, and the opcode bytes. -/
structure FaultRecord where
  cause : FaultCause
  addr  : Word
  bytes : List Byte
deriving DecidableEq, Repr

/-- How far the host's one ROM hand-off has come (70_reset_and_hazards.md R332, R333): it happens exactly once, after
construction and before any instruction executes, and no step may run before it or after one that was refused. -/
inductive RomPhase where
  | awaiting
  | handedOff
  | refused
deriving DecidableEq, Repr

/-- The address space (R50) as the rising list of the bytes that are not 0x00, the value every byte has at construction
(R54, R55): an address that is not listed reads as 0x00. `Memory.wf` states the canonical form. -/
abbrev Memory := List Host.Cell

/-- Every piece of state the spec gives the core (10_state.md §§1–5, 20_memory.md §1). -/
structure State where
  /-- `A`, the accumulator (R20, R21). -/
  a : Byte
  /-- `B` (R20). -/
  b : Byte
  /-- `C` (R20). -/
  c : Byte
  /-- `D` (R20). -/
  d : Byte
  /-- `E` (R20). -/
  e : Byte
  /-- `F`, the flags register (R20, R25); read and written only through `readF` and `writeF`, which hold R26. -/
  f : Byte
  /-- `H` (R20). -/
  h : Byte
  /-- `L` (R20). -/
  l : Byte
  /-- `PC` (R29). -/
  pc : Word
  /-- `SP` (R30). -/
  sp : Word
  /-- The sequencer's mode (R31). -/
  mode : Mode
  /-- `IME` (R32). -/
  ime : Bool
  /-- `IME_PENDING` (R32). -/
  imePending : Bool
  /-- `HALT_CAUSE` (R33). -/
  haltCause : HaltCause
  /-- `FAULT`, empty while no fault has occurred (R34). -/
  fault : Option FaultRecord
  /-- The unified address space, ROM and RAM (R50, R51). -/
  mem : Memory
  /-- Whether the ROM image has been handed off (R332, R333). -/
  romPhase : RomPhase
  /-- The configuration the core was constructed with (R9). DESIGN CHOICE (log entry 1), safe: it is the model's own field,
  held here so that one step function covers every setting; no step changes it. -/
  config : Config
deriving DecidableEq, Repr

/-- The reasons a step could end in a machine fault. No step of this model ends in one: the only fault of the spec,
DecodeError, is taken as a next state (R300). -/
inductive Fault where
  /-- Raised by nobody: the AddressError the source reserves for a future banked memory, which this core never raises
  (R69, R302). Safe: it is never answered. -/
  | addressError
deriving DecidableEq, Repr

/-- The reasons a step could be refused. -/
inductive Refusal where
  /-- Raised by an arm of `exec` whose instruction has no meaning yet; no arm is left that does. Safe: the model stops. -/
  | notModelled (mnemonic : String)
  /-- Raised by `step` of a Running core to which no ROM image has been handed off, or whose hand-off was refused: a host
  may step only after the hand-off, and after a refused one no step may run (R332, R333). Safe: the model stops. -/
  | noRomImage
deriving DecidableEq, Repr

/-- What one instruction or one step answers. -/
abbrev Outcome := Host.Outcome State Fault Refusal

/-- Construction with a configuration (R330, R332, R36–R39, R54): `PC`, `SP`, the eight registers of the boot profile,
Running, no interrupt enable, no halt cause, no fault, every byte of memory 0x00, the ROM hand-off still to come (R332). -/
def State.construct (cfg : Config) : State :=
  let base : State :=
    { a := 0x00, b := 0x00, c := 0x00, d := 0x00, e := 0x00, f := 0x00, h := 0x00, l := 0x00
      pc := 0x0100, sp := 0xFFFE, mode := .running, ime := false, imePending := false
      haltCause := .none, fault := none, mem := [], romPhase := .awaiting, config := cfg }
  match cfg.bootProfile with
  | .zero => base
  | .dmgPostBoot =>
    { base with a := 0x01, f := 0xB0, b := 0x00, c := 0x13, d := 0x00, e := 0xD8, h := 0x01, l := 0x4D }

/-- The machine right after reset: construction under the default configuration of R9 (log entry 1), no ROM image handed
off yet (log entry 3). -/
def State.reset : State := State.construct Config.default

end Sys2Proof.Machine
end

