-- ==== Sys2Proof/Machine/Ops.lean ====
section
/-! DEFINITION. The named operations over memory and registers: byte and word access with the ROM rule, registers, pairs
and flags through one accessor each, the instruction-stream advance, the stack, taking a DecodeError, entering `Halted`
and the delayed `EI`. -/

namespace Sys2Proof.Machine

/-! ### Memory as a canonical list -/

/-- The canonical form from address `lo` on: addresses rising, all below 65,536, no byte 0x00. -/
def Memory.wfFrom : Nat → Memory → Bool
  | _, [] => true
  | lo, (a, v) :: m => decide (lo ≤ a) && decide (a < 65536) && decide (v ≠ 0#8) && Memory.wfFrom (a + 1) m

/-- The canonical form of a memory, so that equal memories are equal lists. -/
def Memory.wf (m : Memory) : Bool := Memory.wfFrom 0 m

/-- The byte at `a`; an unlisted address reads as 0x00 (R54, R55). -/
def Memory.read : Memory → Nat → Byte
  | [], _ => 0#8
  | (b, v) :: m, a => if b = a then v else Memory.read m a

/-- `m` without any entry for `a`. -/
def Memory.erase (m : Memory) (a : Nat) : Memory := m.filter (fun cell => cell.1 != a)

/-- `m` with the entry `(a, v)` put before the first higher address. -/
def Memory.insert : Memory → Nat → Byte → Memory
  | [], a, v => [(a, v)]
  | (b, w) :: m, a, v => if a < b then (a, v) :: (b, w) :: m else (b, w) :: Memory.insert m a v

/-- `m` with the byte at `a` set to `v`; writing 0x00 removes the entry. -/
def Memory.write (m : Memory) (a : Nat) (v : Byte) : Memory :=
  if v = 0#8 then m.erase a else (m.erase a).insert a v

/-- `m` with `bytes` at the addresses from `base` on: the loader's write, which no region refuses (R55). -/
def Memory.load : Memory → Nat → List Byte → Memory
  | m, _, [] => m
  | m, base, v :: bytes => Memory.load (m.write base v) (base + 1) bytes

/-! ### The address space -/

/-- The one region an address resolves to (R51, R52). -/
def regionOf (cfg : Config) (addr : Word) : Region :=
  if addr.toNat ≤ cfg.romEnd.val then .rom
  else if addr.toNat ≤ 0x9FFF then .vram
  else if addr.toNat ≤ 0xFEFF then .internalRam
  else .highRam

/-- `MemRead(addr, 1)` (R56). -/
def State.memRead (s : State) (addr : Word) : Byte := s.mem.read addr.toNat

/-- `MemWrite(addr, 1, v)` (R57): stored in a writable region, ignored in ROM. -/
def State.memWrite (addr : Word) (v : Byte) (s : State) : State :=
  match regionOf s.config addr with
  | .rom => s
  | .vram => { s with mem := s.mem.write addr.toNat v }
  | .internalRam => { s with mem := s.mem.write addr.toNat v }
  | .highRam => { s with mem := s.mem.write addr.toNat v }

/-- `MemRead(addr, 2)` (R58): little-endian, the second address modulo 2^16. -/
def State.memRead16 (s : State) (addr : Word) : Word := joinBytes (s.memRead (addr + 1)) (s.memRead addr)

/-- `MemWrite(addr, 2, v)` (R59): the low byte first, each byte handled by its own region. -/
def State.memWrite16 (addr : Word) (v : Word) (s : State) : State :=
  (s.memWrite addr (loByte v)).memWrite (addr + 1) (hiByte v)

/-! ### Registers, pairs and flags -/

/-- The register an operand code names (R12, R90). -/
def State.getReg (s : State) : Reg → Byte
  | .a => s.a
  | .b => s.b
  | .c => s.c
  | .d => s.d
  | .e => s.e
  | .h => s.h
  | .l => s.l

/-- `x[r] <- v` (R12). -/
def State.setReg (r : Reg) (v : Byte) (s : State) : State :=
  match r with
  | .a => { s with a := v }
  | .b => { s with b := v }
  | .c => { s with c := v }
  | .d => { s with d := v }
  | .e => { s with e := v }
  | .h => { s with h := v }
  | .l => { s with l := v }

/-- A read of `F`: bits 3..0 read as 0 (R26). -/
def State.readF (s : State) : Byte := s.f &&& 0xF0#8

/-- A write of `F`: `v & 0xF0` is stored (R26). -/
def State.writeF (v : Byte) (s : State) : State := { s with f := v &&& 0xF0#8 }

/-- The masks of R25. -/
def flagMask : Flag → Byte
  | .z => 0x80#8
  | .n => 0x40#8
  | .h => 0x20#8
  | .c => 0x10#8

/-- Testing a flag: `(F & mask) != 0` (R27). -/
def State.getFlag (s : State) (fl : Flag) : Bool := (s.readF &&& flagMask fl) != 0#8

/-- Setting a flag is `F | mask`, clearing it `F & ~mask` (R27). -/
def State.writeFlag (fl : Flag) (v : Bool) (s : State) : State :=
  s.writeF (if v then s.readF ||| flagMask fl else s.readF &&& ~~~(flagMask fl))

/-- `FZ <- z; FN <- n; FH <- h; FC <- c`. -/
def State.setFlags (z n h c : Bool) (s : State) : State :=
  (((s.writeFlag .z z).writeFlag .n n).writeFlag .h h).writeFlag .c c

/-- `FZ <- z; FN <- n; FH <- h`, `FC` not written. -/
def State.setFlagsZNH (z n h : Bool) (s : State) : State :=
  ((s.writeFlag .z z).writeFlag .n n).writeFlag .h h

/-- `FN <- n; FH <- h; FC <- c`, `FZ` not written. -/
def State.setFlagsNHC (n h c : Bool) (s : State) : State :=
  ((s.writeFlag .n n).writeFlag .h h).writeFlag .c c

/-- Reading a pair: `(hi << 8) | lo` of its two registers (R22); for `AF` the low byte is a read of `F`. -/
def State.getPair (s : State) : Pair → Word
  | .bc => joinBytes s.b s.c
  | .de => joinBytes s.d s.e
  | .hl => joinBytes s.h s.l
  | .af => joinBytes s.a s.readF

/-- Writing a pair (R23): a function of `v` alone; for `AF` the low byte is a write of `F`. -/
def State.setPair (p : Pair) (v : Word) (s : State) : State :=
  match p with
  | .bc => (s.setReg .b (hiByte v)).setReg .c (loByte v)
  | .de => (s.setReg .d (hiByte v)).setReg .e (loByte v)
  | .hl => (s.setReg .h (hiByte v)).setReg .l (loByte v)
  | .af => (s.setReg .a (hiByte v)).writeF (loByte v)

/-- `PC <- v`. -/
def State.setPc (v : Word) (s : State) : State := { s with pc := v }

/-- `SP <- v`. -/
def State.setSp (v : Word) (s : State) : State := { s with sp := v }

/-- Reading the 16-bit register `r16(p)` (R91). -/
def State.getReg16 (s : State) : Reg16 → Word
  | .bc => s.getPair .bc
  | .de => s.getPair .de
  | .hl => s.getPair .hl
  | .sp => s.sp

/-- Writing the 16-bit register `r16(p)` (R91). -/
def State.setReg16 (r : Reg16) (v : Word) (s : State) : State :=
  match r with
  | .bc => s.setPair .bc v
  | .de => s.setPair .de v
  | .hl => s.setPair .hl v
  | .sp => s.setSp v

/-! ### Instruction stream and stack -/

/-- `PC` after `n` bytes of the instruction have been fetched (R82, R83), modulo 2^16 (R29). -/
def State.advance (n : Nat) (s : State) : State := s.setPc (s.pc + BitVec.ofNat 16 n)

/-- `Push16(v)` (R62): the word at `SP - 2`, then `SP <- SP - 2`, modulo 2^16. -/
def State.push16 (v : Word) (s : State) : State :=
  (s.memWrite16 (s.sp - 2) v).setSp (s.sp - 2)

/-- The value `Pop16()` returns (R63). -/
def State.popValue (s : State) : Word := s.memRead16 s.sp

/-- The state `Pop16()` leaves (R63): `SP <- SP + 2`, modulo 2^16. -/
def State.popDone (s : State) : State := s.setSp (s.sp + 2)

/-! ### Interrupt-enable state, `Halted`, and the DecodeError -/

/-- Writing `IME` and `IME_PENDING` (R32). -/
def State.setIme (enable pending : Bool) (s : State) : State := { s with ime := enable, imePending := pending }

/-- `mode <- Halted; HALT_CAUSE <- cause` (R201, R202). -/
def State.enterHalted (cause : HaltCause) (s : State) : State := { s with mode := .halted, haltCause := cause }

/-- `raise DecodeError(info)` (R300), the one exception of this core: applied to the state as it was before the step, it
records the address of the failing opcode byte and the opcode bytes, enters `Faulted`, and leaves everything else.
Nothing is saved elsewhere, no handler is entered, and there is no return from it (R301, R306, R310). -/
def State.raiseDecodeError (bytes : List Byte) (s : State) : State :=
  { s with mode := .faulted, fault := some { cause := .decodeError, addr := s.pc, bytes := bytes } }

/-- The last lines of `Step()` (R85): when `IME_PENDING` was 1 before the instruction and still is, `IME <- 1` and
`IME_PENDING <- 0`. A raised DecodeError ends the step before them, so they do not run in `Faulted`. -/
def State.commitDelayedEi (pendBefore : Bool) (s : State) : State :=
  if pendBefore && s.imePending && s.mode != .faulted then s.setIme true false else s

end Sys2Proof.Machine
end

