-- ==== Sys2Proof/Machine/Flags.lean ====
section
/-! DEFINITION. Every flag computation of the spec, on integers as the spec writes them (42_alu8.md R160, R161;
43_alu16.md R190, R193; 44_misc_control.md R205; 45_rotate_shift.md R220–R232). -/

namespace Sys2Proof.Machine

/-- A result with the four flags computed beside it. -/
structure AluResult (w : Nat) where
  res : BitVec w
  z : Bool
  n : Bool
  h : Bool
  c : Bool
deriving DecidableEq, Repr

/-- `Add8(a, b, cin)` (R160). -/
def add8 (a b : Byte) (cin : Bool) : AluResult 8 :=
  let sum := a.toNat + b.toNat + cin.toNat
  { res := BitVec.ofNat 8 sum
    z := decide (sum % 256 = 0)
    n := false
    h := decide (a.toNat % 16 + b.toNat % 16 + cin.toNat > 0xF)
    c := decide (sum > 0xFF) }

/-- `Sub8(a, b, cin)` (R161). -/
def sub8 (a b : Byte) (cin : Bool) : AluResult 8 :=
  let res := BitVec.ofInt 8 ((a.toNat : Int) - b.toNat - cin.toNat)
  { res := res
    z := decide (res = 0#8)
    n := true
    h := decide (b.toNat % 16 + cin.toNat > a.toNat % 16)
    c := decide (b.toNat + cin.toNat > a.toNat) }

/-- `AND` (R167): H is 1, N and C are 0. -/
def and8 (a b : Byte) : AluResult 8 := { res := a &&& b, z := decide (a &&& b = 0#8), n := false, h := true, c := false }

/-- `XOR` (R168): N, H and C are 0. -/
def xor8 (a b : Byte) : AluResult 8 := { res := a ^^^ b, z := decide (a ^^^ b = 0#8), n := false, h := false, c := false }

/-- `OR` (R169): N, H and C are 0. -/
def or8 (a b : Byte) : AluResult 8 := { res := a ||| b, z := decide (a ||| b = 0#8), n := false, h := false, c := false }

/-- The operation `y` of R162 on `A`, the operand and `FC` (R163–R170); `CP` computes as `SUB`. -/
def alu8 (op : AluOp) (a v : Byte) (carry : Bool) : AluResult 8 :=
  match op with
  | .add => add8 a v false
  | .adc => add8 a v carry
  | .sub => sub8 a v false
  | .sbc => sub8 a v carry
  | .and => and8 a v
  | .xor => xor8 a v
  | .or => or8 a v
  | .cp => sub8 a v false

/-- The sum of `ADD HL,rr` with H out of bit 11 and C out of bit 15 (R190); Z is not written and is kept by the caller. -/
def add16 (fz : Bool) (x y : Word) : AluResult 16 :=
  { res := BitVec.ofNat 16 (x.toNat + y.toNat)
    z := fz
    n := false
    h := decide (x.toNat % 0x1000 + y.toNat % 0x1000 > 0x0FFF)
    c := decide (x.toNat + y.toNat > 0xFFFF) }

/-- `SpOffset(sp, e)` (R193) under the configured `SP_OFFSET_FLAGS`; `fz` is `FZ` before the instruction. -/
def spOffset (rule : SpOffsetFlags) (fz : Bool) (sp : Word) (e : Byte) : AluResult 16 :=
  match rule with
  | .doc16Bit => add16 fz sp (sext16 e)
  | .lr35902Bits8 =>
    { res := sp + sext16 e
      z := false
      n := false
      h := decide (sp.toNat % 0x10 + e.toNat % 0x10 > 0x0F)
      c := decide (sp.toNat % 0x100 + e.toNat > 0xFF) }

/-- A rotate, shift or swap of the CB page (R225–R232) on `v` with `FC` before the instruction. -/
def shift8 (op : ShiftOp) (v : Byte) (carry : Bool) : AluResult 8 :=
  let carryIn : Byte := if carry then 1#8 else 0#8
  let top : Byte := v >>> 7
  let low : Byte := v &&& 1#8
  let done (res : Byte) (out : Byte) : AluResult 8 :=
    { res := res, z := decide (res = 0#8), n := false, h := false, c := out != 0#8 }
  match op with
  | .rlc => done ((v <<< 1) ||| top) top
  | .rrc => done ((v >>> 1) ||| (low <<< 7)) low
  | .rl => done ((v <<< 1) ||| carryIn) top
  | .rr => done ((v >>> 1) ||| (carryIn <<< 7)) low
  | .sla => done (v <<< 1) top
  | .sra => done ((v >>> 1) ||| (v &&& 0x80#8)) low
  | .swap => done ((v <<< 4) ||| (v >>> 4)) 0#8
  | .srl => done (v >>> 1) low

/-- `DAA` (R205): the adjusted accumulator and the carry after it; Z and H are set from them by the instruction. -/
def daaAdjust (a : Byte) (n h c : Bool) : Byte × Bool :=
  let start : Int := a.toNat
  if n then
    let afterC := if c then start - 0x60 else start
    let afterH := if h then afterC - 0x06 else afterC
    (BitVec.ofInt 8 afterH, c)
  else
    let high := c || decide (start > 0x99)
    let afterC := if high then start + 0x60 else start
    let afterH := if h || decide (afterC % 16 > 9) then afterC + 0x06 else afterC
    (BitVec.ofInt 8 afterH, high)

/-- Storing the four flags of a result (`FZ <- z; FN <- n; FH <- h; FC <- c`). -/
def State.setFlagsFrom {w : Nat} (r : AluResult w) (s : State) : State := s.setFlags r.z r.n r.h r.c

end Sys2Proof.Machine
end

