-- ==== Sys2Proof/Machine/Alu16.lean ====
section
/-! DEFINITION. 16-bit arithmetic (43_alu16.md R190–R194). -/

namespace Sys2Proof.Machine

/-! ### Shared operations -/

/-- `ADD HL,rr` (R190): N, H and C are written, Z is not. -/
def addHl (r16 : Reg16) (s : State) : State :=
  let r := add16 (s.getFlag .z) (s.getPair .hl) (s.getReg16 r16)
  ((s.advance 1).setPair .hl r.res).setFlagsNHC r.n r.h r.c

/-- `x[rr] <- (x[rr] + 1) mod 2^16` (R191): no flag is written. -/
def inc16 (r : Reg16) (s : State) : State := (s.advance 1).setReg16 r (s.getReg16 r + 1)

/-- `x[rr] <- (x[rr] - 1) mod 2^16` (R192): no flag is written. -/
def dec16 (r : Reg16) (s : State) : State := (s.advance 1).setReg16 r (s.getReg16 r - 1)

/-- `ADD SP,e` (R194): the result and flags of `SpOffset` (R193) under the configured rule. -/
def addSpOffset (e : Byte) (s : State) : State :=
  let r := spOffset s.config.spOffsetFlags (s.getFlag .z) s.sp e
  ((s.advance 2).setSp r.res).setFlagsFrom r

/-! ### The instructions -/

/-- `ADD HL,BC` (R190). -/
def execAdd_HL_BC (s : State) : Outcome := .next (addHl .bc s)

/-- `ADD HL,DE` (R190). -/
def execAdd_HL_DE (s : State) : Outcome := .next (addHl .de s)

/-- `ADD HL,HL` (R190). -/
def execAdd_HL_HL (s : State) : Outcome := .next (addHl .hl s)

/-- `ADD HL,SP` (R190). -/
def execAdd_HL_SP (s : State) : Outcome := .next (addHl .sp s)

/-- `INC BC` (R191). -/
def execInc_BC (s : State) : Outcome := .next (inc16 .bc s)

/-- `INC DE` (R191). -/
def execInc_DE (s : State) : Outcome := .next (inc16 .de s)

/-- `INC HL` (R191). -/
def execInc_HL (s : State) : Outcome := .next (inc16 .hl s)

/-- `INC SP` (R191). -/
def execInc_SP (s : State) : Outcome := .next (inc16 .sp s)

/-- `DEC BC` (R192). -/
def execDec_BC (s : State) : Outcome := .next (dec16 .bc s)

/-- `DEC DE` (R192). -/
def execDec_DE (s : State) : Outcome := .next (dec16 .de s)

/-- `DEC HL` (R192). -/
def execDec_HL (s : State) : Outcome := .next (dec16 .hl s)

/-- `DEC SP` (R192). -/
def execDec_SP (s : State) : Outcome := .next (dec16 .sp s)

/-- `ADD SP,e` (R194, R193). -/
def execAdd_SP_e (e : Byte) (s : State) : Outcome := .next (addSpOffset e s)

end Sys2Proof.Machine
end

