-- ==== Sys2Proof/Machine/Operands.lean ====
section
/-! DEFINITION. The operand forms: the 8-bit operand of R90 and R94, the condition of R93, the relative target of R251. -/

namespace Sys2Proof.Machine

/-- Reading `r8(c)` (R90): the register, or `MemRead(HL, 1)` (R94). -/
def State.readOperand (s : State) : Operand8 → Byte
  | .reg r => s.getReg r
  | .atHL => s.memRead (s.getPair .hl)

/-- Writing `r8(c)` (R90): the register, or `MemWrite(HL, 1, v)` (R94), ignored in ROM. -/
def State.writeOperand (o : Operand8) (v : Byte) (s : State) : State :=
  match o with
  | .reg r => s.setReg r v
  | .atHL => s.memWrite (s.getPair .hl) v

/-- `cond(cc)` (R93), on the flags as they stand. -/
def State.cond (s : State) : Cond → Bool
  | .nz => !s.getFlag .z
  | .z => s.getFlag .z
  | .nc => !s.getFlag .c
  | .c => s.getFlag .c

/-- `pc <- (PC + sext_16(e)) mod 2^16` (R251), `PC` being the address after the displacement byte. -/
def State.jumpRelative (e : Byte) (s : State) : State := s.setPc (s.pc + sext16 e)

/-- `Push16(PC); pc <- target` (R260, R264), `PC` being the address after the instruction's last byte. -/
def State.callTo (target : Word) (s : State) : State := (s.push16 s.pc).setPc target

/-- `pc <- Pop16()` (R262). -/
def State.returnFromStack (s : State) : State := s.popDone.setPc s.popValue

end Sys2Proof.Machine
end

