-- ==== Sys2Proof/Machine/Alu8.lean ====
section
/-! DEFINITION. 8-bit arithmetic and logic (42_alu8.md R163–R174). -/

namespace Sys2Proof.Machine

/-! ### Shared operations -/

/-- The accumulator operation `op` with second operand `v` by an instruction of `len` bytes (R163–R170): the four flags
are written, and `A` unless the operation is `CP` (R170). -/
def aluWith (op : AluOp) (len : Nat) (v : Byte) (s : State) : State :=
  let r := alu8 op s.a v (s.getFlag .c)
  let flagged := (s.advance len).setFlagsFrom r
  match op with
  | .cp => flagged
  | .add | .adc | .sub | .sbc | .and | .xor | .or => flagged.setReg .a r.res

/-- The accumulator operation on `r8(z)` (R162). -/
def aluOperand (op : AluOp) (o : Operand8) (s : State) : State := aluWith op 1 (s.readOperand o) s

/-- The accumulator operation on an immediate (R162). -/
def aluImm (op : AluOp) (n : Byte) (s : State) : State := aluWith op 2 n s

/-- `INC` on an 8-bit operand (R171, R172): Z, N and H are written, C is not. -/
def inc8 (o : Operand8) (s : State) : State :=
  let r := add8 (s.readOperand o) 1#8 false
  ((s.advance 1).writeOperand o r.res).setFlagsZNH r.z false r.h

/-- `DEC` on an 8-bit operand (R173, R174): Z, N and H are written, C is not. -/
def dec8 (o : Operand8) (s : State) : State :=
  let r := sub8 (s.readOperand o) 1#8 false
  ((s.advance 1).writeOperand o r.res).setFlagsZNH r.z true r.h

/-! ### The instructions -/

/-- `ADD A,B` (R163). -/
def execAdd_A_B (s : State) : Outcome := .next (aluOperand .add (.reg .b) s)

/-- `ADD A,C` (R163). -/
def execAdd_A_C (s : State) : Outcome := .next (aluOperand .add (.reg .c) s)

/-- `ADD A,D` (R163). -/
def execAdd_A_D (s : State) : Outcome := .next (aluOperand .add (.reg .d) s)

/-- `ADD A,E` (R163). -/
def execAdd_A_E (s : State) : Outcome := .next (aluOperand .add (.reg .e) s)

/-- `ADD A,H` (R163). -/
def execAdd_A_H (s : State) : Outcome := .next (aluOperand .add (.reg .h) s)

/-- `ADD A,L` (R163). -/
def execAdd_A_L (s : State) : Outcome := .next (aluOperand .add (.reg .l) s)

/-- `ADD A,(HL)` (R163). -/
def execAdd_A_atHL (s : State) : Outcome := .next (aluOperand .add .atHL s)

/-- `ADD A,A` (R163). -/
def execAdd_A_A (s : State) : Outcome := .next (aluOperand .add (.reg .a) s)

/-- `ADD A,n` (R163). -/
def execAdd_A_n (n : Byte) (s : State) : Outcome := .next (aluImm .add n s)

/-- `ADC A,B` (R164). -/
def execAdc_A_B (s : State) : Outcome := .next (aluOperand .adc (.reg .b) s)

/-- `ADC A,C` (R164). -/
def execAdc_A_C (s : State) : Outcome := .next (aluOperand .adc (.reg .c) s)

/-- `ADC A,D` (R164). -/
def execAdc_A_D (s : State) : Outcome := .next (aluOperand .adc (.reg .d) s)

/-- `ADC A,E` (R164). -/
def execAdc_A_E (s : State) : Outcome := .next (aluOperand .adc (.reg .e) s)

/-- `ADC A,H` (R164). -/
def execAdc_A_H (s : State) : Outcome := .next (aluOperand .adc (.reg .h) s)

/-- `ADC A,L` (R164). -/
def execAdc_A_L (s : State) : Outcome := .next (aluOperand .adc (.reg .l) s)

/-- `ADC A,(HL)` (R164). -/
def execAdc_A_atHL (s : State) : Outcome := .next (aluOperand .adc .atHL s)

/-- `ADC A,A` (R164). -/
def execAdc_A_A (s : State) : Outcome := .next (aluOperand .adc (.reg .a) s)

/-- `ADC A,n` (R164). -/
def execAdc_A_n (n : Byte) (s : State) : Outcome := .next (aluImm .adc n s)

/-- `SUB B` (R165). -/
def execSub_B (s : State) : Outcome := .next (aluOperand .sub (.reg .b) s)

/-- `SUB C` (R165). -/
def execSub_C (s : State) : Outcome := .next (aluOperand .sub (.reg .c) s)

/-- `SUB D` (R165). -/
def execSub_D (s : State) : Outcome := .next (aluOperand .sub (.reg .d) s)

/-- `SUB E` (R165). -/
def execSub_E (s : State) : Outcome := .next (aluOperand .sub (.reg .e) s)

/-- `SUB H` (R165). -/
def execSub_H (s : State) : Outcome := .next (aluOperand .sub (.reg .h) s)

/-- `SUB L` (R165). -/
def execSub_L (s : State) : Outcome := .next (aluOperand .sub (.reg .l) s)

/-- `SUB (HL)` (R165). -/
def execSub_atHL (s : State) : Outcome := .next (aluOperand .sub .atHL s)

/-- `SUB A` (R165). -/
def execSub_A (s : State) : Outcome := .next (aluOperand .sub (.reg .a) s)

/-- `SUB n` (R165). -/
def execSub_n (n : Byte) (s : State) : Outcome := .next (aluImm .sub n s)

/-- `SBC A,B` (R166). -/
def execSbc_A_B (s : State) : Outcome := .next (aluOperand .sbc (.reg .b) s)

/-- `SBC A,C` (R166). -/
def execSbc_A_C (s : State) : Outcome := .next (aluOperand .sbc (.reg .c) s)

/-- `SBC A,D` (R166). -/
def execSbc_A_D (s : State) : Outcome := .next (aluOperand .sbc (.reg .d) s)

/-- `SBC A,E` (R166). -/
def execSbc_A_E (s : State) : Outcome := .next (aluOperand .sbc (.reg .e) s)

/-- `SBC A,H` (R166). -/
def execSbc_A_H (s : State) : Outcome := .next (aluOperand .sbc (.reg .h) s)

/-- `SBC A,L` (R166). -/
def execSbc_A_L (s : State) : Outcome := .next (aluOperand .sbc (.reg .l) s)

/-- `SBC A,(HL)` (R166). -/
def execSbc_A_atHL (s : State) : Outcome := .next (aluOperand .sbc .atHL s)

/-- `SBC A,A` (R166). -/
def execSbc_A_A (s : State) : Outcome := .next (aluOperand .sbc (.reg .a) s)

/-- `SBC A,n` (R166). -/
def execSbc_A_n (n : Byte) (s : State) : Outcome := .next (aluImm .sbc n s)

/-- `AND B` (R167). -/
def execAnd_B (s : State) : Outcome := .next (aluOperand .and (.reg .b) s)

/-- `AND C` (R167). -/
def execAnd_C (s : State) : Outcome := .next (aluOperand .and (.reg .c) s)

/-- `AND D` (R167). -/
def execAnd_D (s : State) : Outcome := .next (aluOperand .and (.reg .d) s)

/-- `AND E` (R167). -/
def execAnd_E (s : State) : Outcome := .next (aluOperand .and (.reg .e) s)

/-- `AND H` (R167). -/
def execAnd_H (s : State) : Outcome := .next (aluOperand .and (.reg .h) s)

/-- `AND L` (R167). -/
def execAnd_L (s : State) : Outcome := .next (aluOperand .and (.reg .l) s)

/-- `AND (HL)` (R167). -/
def execAnd_atHL (s : State) : Outcome := .next (aluOperand .and .atHL s)

/-- `AND A` (R167). -/
def execAnd_A (s : State) : Outcome := .next (aluOperand .and (.reg .a) s)

/-- `AND n` (R167). -/
def execAnd_n (n : Byte) (s : State) : Outcome := .next (aluImm .and n s)

/-- `XOR B` (R168). -/
def execXor_B (s : State) : Outcome := .next (aluOperand .xor (.reg .b) s)

/-- `XOR C` (R168). -/
def execXor_C (s : State) : Outcome := .next (aluOperand .xor (.reg .c) s)

/-- `XOR D` (R168). -/
def execXor_D (s : State) : Outcome := .next (aluOperand .xor (.reg .d) s)

/-- `XOR E` (R168). -/
def execXor_E (s : State) : Outcome := .next (aluOperand .xor (.reg .e) s)

/-- `XOR H` (R168). -/
def execXor_H (s : State) : Outcome := .next (aluOperand .xor (.reg .h) s)

/-- `XOR L` (R168). -/
def execXor_L (s : State) : Outcome := .next (aluOperand .xor (.reg .l) s)

/-- `XOR (HL)` (R168). -/
def execXor_atHL (s : State) : Outcome := .next (aluOperand .xor .atHL s)

/-- `XOR A` (R168). -/
def execXor_A (s : State) : Outcome := .next (aluOperand .xor (.reg .a) s)

/-- `XOR n` (R168). -/
def execXor_n (n : Byte) (s : State) : Outcome := .next (aluImm .xor n s)

/-- `OR B` (R169). -/
def execOr_B (s : State) : Outcome := .next (aluOperand .or (.reg .b) s)

/-- `OR C` (R169). -/
def execOr_C (s : State) : Outcome := .next (aluOperand .or (.reg .c) s)

/-- `OR D` (R169). -/
def execOr_D (s : State) : Outcome := .next (aluOperand .or (.reg .d) s)

/-- `OR E` (R169). -/
def execOr_E (s : State) : Outcome := .next (aluOperand .or (.reg .e) s)

/-- `OR H` (R169). -/
def execOr_H (s : State) : Outcome := .next (aluOperand .or (.reg .h) s)

/-- `OR L` (R169). -/
def execOr_L (s : State) : Outcome := .next (aluOperand .or (.reg .l) s)

/-- `OR (HL)` (R169). -/
def execOr_atHL (s : State) : Outcome := .next (aluOperand .or .atHL s)

/-- `OR A` (R169). -/
def execOr_A (s : State) : Outcome := .next (aluOperand .or (.reg .a) s)

/-- `OR n` (R169). -/
def execOr_n (n : Byte) (s : State) : Outcome := .next (aluImm .or n s)

/-- `CP B` (R170). -/
def execCp_B (s : State) : Outcome := .next (aluOperand .cp (.reg .b) s)

/-- `CP C` (R170). -/
def execCp_C (s : State) : Outcome := .next (aluOperand .cp (.reg .c) s)

/-- `CP D` (R170). -/
def execCp_D (s : State) : Outcome := .next (aluOperand .cp (.reg .d) s)

/-- `CP E` (R170). -/
def execCp_E (s : State) : Outcome := .next (aluOperand .cp (.reg .e) s)

/-- `CP H` (R170). -/
def execCp_H (s : State) : Outcome := .next (aluOperand .cp (.reg .h) s)

/-- `CP L` (R170). -/
def execCp_L (s : State) : Outcome := .next (aluOperand .cp (.reg .l) s)

/-- `CP (HL)` (R170). -/
def execCp_atHL (s : State) : Outcome := .next (aluOperand .cp .atHL s)

/-- `CP A` (R170). -/
def execCp_A (s : State) : Outcome := .next (aluOperand .cp (.reg .a) s)

/-- `CP n` (R170). -/
def execCp_n (n : Byte) (s : State) : Outcome := .next (aluImm .cp n s)

/-- `INC B` (R171). -/
def execInc_B (s : State) : Outcome := .next (inc8 (.reg .b) s)

/-- `INC C` (R171). -/
def execInc_C (s : State) : Outcome := .next (inc8 (.reg .c) s)

/-- `INC D` (R171). -/
def execInc_D (s : State) : Outcome := .next (inc8 (.reg .d) s)

/-- `INC E` (R171). -/
def execInc_E (s : State) : Outcome := .next (inc8 (.reg .e) s)

/-- `INC H` (R171). -/
def execInc_H (s : State) : Outcome := .next (inc8 (.reg .h) s)

/-- `INC L` (R171). -/
def execInc_L (s : State) : Outcome := .next (inc8 (.reg .l) s)

/-- `INC A` (R171). -/
def execInc_A (s : State) : Outcome := .next (inc8 (.reg .a) s)

/-- `INC (HL)` (R172): the flags are set even where ROM ignores the write. -/
def execInc_atHL (s : State) : Outcome := .next (inc8 .atHL s)

/-- `DEC B` (R173). -/
def execDec_B (s : State) : Outcome := .next (dec8 (.reg .b) s)

/-- `DEC C` (R173). -/
def execDec_C (s : State) : Outcome := .next (dec8 (.reg .c) s)

/-- `DEC D` (R173). -/
def execDec_D (s : State) : Outcome := .next (dec8 (.reg .d) s)

/-- `DEC E` (R173). -/
def execDec_E (s : State) : Outcome := .next (dec8 (.reg .e) s)

/-- `DEC H` (R173). -/
def execDec_H (s : State) : Outcome := .next (dec8 (.reg .h) s)

/-- `DEC L` (R173). -/
def execDec_L (s : State) : Outcome := .next (dec8 (.reg .l) s)

/-- `DEC A` (R173). -/
def execDec_A (s : State) : Outcome := .next (dec8 (.reg .a) s)

/-- `DEC (HL)` (R174): the flags are set even where ROM ignores the write. -/
def execDec_atHL (s : State) : Outcome := .next (dec8 .atHL s)

end Sys2Proof.Machine
end

