-- ==== Sys2Proof/Machine/Bit.lean ====
section
/-! DEFINITION. Bit operations (46_bit.md R240–R242). -/

namespace Sys2Proof.Machine

/-! ### Shared operations -/

/-- `BIT b,s` (R240): Z is the complement of the bit, N 0, H 1, C not written; the operand is not written. -/
def testBit (b : Fin 8) (o : Operand8) (s : State) : State :=
  (s.advance 2).setFlagsZNH (!(s.readOperand o).getLsbD b.val) false true

/-- `RES b,s` (R241): the bit is cleared; no flag is written. -/
def resetBit (b : Fin 8) (o : Operand8) (s : State) : State :=
  (s.advance 2).writeOperand o (s.readOperand o &&& ~~~(1#8 <<< b.val))

/-- `SET b,s` (R242): the bit is set; no flag is written. -/
def setBit (b : Fin 8) (o : Operand8) (s : State) : State :=
  (s.advance 2).writeOperand o (s.readOperand o ||| (1#8 <<< b.val))

/-! ### The instructions -/

/-- `BIT 0,B` (R240). -/
def execBit_0_B (s : State) : Outcome := .next (testBit 0 (.reg .b) s)

/-- `BIT 0,C` (R240). -/
def execBit_0_C (s : State) : Outcome := .next (testBit 0 (.reg .c) s)

/-- `BIT 0,D` (R240). -/
def execBit_0_D (s : State) : Outcome := .next (testBit 0 (.reg .d) s)

/-- `BIT 0,E` (R240). -/
def execBit_0_E (s : State) : Outcome := .next (testBit 0 (.reg .e) s)

/-- `BIT 0,H` (R240). -/
def execBit_0_H (s : State) : Outcome := .next (testBit 0 (.reg .h) s)

/-- `BIT 0,L` (R240). -/
def execBit_0_L (s : State) : Outcome := .next (testBit 0 (.reg .l) s)

/-- `BIT 0,(HL)` (R240). -/
def execBit_0_atHL (s : State) : Outcome := .next (testBit 0 .atHL s)

/-- `BIT 0,A` (R240). -/
def execBit_0_A (s : State) : Outcome := .next (testBit 0 (.reg .a) s)

/-- `BIT 1,B` (R240). -/
def execBit_1_B (s : State) : Outcome := .next (testBit 1 (.reg .b) s)

/-- `BIT 1,C` (R240). -/
def execBit_1_C (s : State) : Outcome := .next (testBit 1 (.reg .c) s)

/-- `BIT 1,D` (R240). -/
def execBit_1_D (s : State) : Outcome := .next (testBit 1 (.reg .d) s)

/-- `BIT 1,E` (R240). -/
def execBit_1_E (s : State) : Outcome := .next (testBit 1 (.reg .e) s)

/-- `BIT 1,H` (R240). -/
def execBit_1_H (s : State) : Outcome := .next (testBit 1 (.reg .h) s)

/-- `BIT 1,L` (R240). -/
def execBit_1_L (s : State) : Outcome := .next (testBit 1 (.reg .l) s)

/-- `BIT 1,(HL)` (R240). -/
def execBit_1_atHL (s : State) : Outcome := .next (testBit 1 .atHL s)

/-- `BIT 1,A` (R240). -/
def execBit_1_A (s : State) : Outcome := .next (testBit 1 (.reg .a) s)

/-- `BIT 2,B` (R240). -/
def execBit_2_B (s : State) : Outcome := .next (testBit 2 (.reg .b) s)

/-- `BIT 2,C` (R240). -/
def execBit_2_C (s : State) : Outcome := .next (testBit 2 (.reg .c) s)

/-- `BIT 2,D` (R240). -/
def execBit_2_D (s : State) : Outcome := .next (testBit 2 (.reg .d) s)

/-- `BIT 2,E` (R240). -/
def execBit_2_E (s : State) : Outcome := .next (testBit 2 (.reg .e) s)

/-- `BIT 2,H` (R240). -/
def execBit_2_H (s : State) : Outcome := .next (testBit 2 (.reg .h) s)

/-- `BIT 2,L` (R240). -/
def execBit_2_L (s : State) : Outcome := .next (testBit 2 (.reg .l) s)

/-- `BIT 2,(HL)` (R240). -/
def execBit_2_atHL (s : State) : Outcome := .next (testBit 2 .atHL s)

/-- `BIT 2,A` (R240). -/
def execBit_2_A (s : State) : Outcome := .next (testBit 2 (.reg .a) s)

/-- `BIT 3,B` (R240). -/
def execBit_3_B (s : State) : Outcome := .next (testBit 3 (.reg .b) s)

/-- `BIT 3,C` (R240). -/
def execBit_3_C (s : State) : Outcome := .next (testBit 3 (.reg .c) s)

/-- `BIT 3,D` (R240). -/
def execBit_3_D (s : State) : Outcome := .next (testBit 3 (.reg .d) s)

/-- `BIT 3,E` (R240). -/
def execBit_3_E (s : State) : Outcome := .next (testBit 3 (.reg .e) s)

/-- `BIT 3,H` (R240). -/
def execBit_3_H (s : State) : Outcome := .next (testBit 3 (.reg .h) s)

/-- `BIT 3,L` (R240). -/
def execBit_3_L (s : State) : Outcome := .next (testBit 3 (.reg .l) s)

/-- `BIT 3,(HL)` (R240). -/
def execBit_3_atHL (s : State) : Outcome := .next (testBit 3 .atHL s)

/-- `BIT 3,A` (R240). -/
def execBit_3_A (s : State) : Outcome := .next (testBit 3 (.reg .a) s)

/-- `BIT 4,B` (R240). -/
def execBit_4_B (s : State) : Outcome := .next (testBit 4 (.reg .b) s)

/-- `BIT 4,C` (R240). -/
def execBit_4_C (s : State) : Outcome := .next (testBit 4 (.reg .c) s)

/-- `BIT 4,D` (R240). -/
def execBit_4_D (s : State) : Outcome := .next (testBit 4 (.reg .d) s)

/-- `BIT 4,E` (R240). -/
def execBit_4_E (s : State) : Outcome := .next (testBit 4 (.reg .e) s)

/-- `BIT 4,H` (R240). -/
def execBit_4_H (s : State) : Outcome := .next (testBit 4 (.reg .h) s)

/-- `BIT 4,L` (R240). -/
def execBit_4_L (s : State) : Outcome := .next (testBit 4 (.reg .l) s)

/-- `BIT 4,(HL)` (R240). -/
def execBit_4_atHL (s : State) : Outcome := .next (testBit 4 .atHL s)

/-- `BIT 4,A` (R240). -/
def execBit_4_A (s : State) : Outcome := .next (testBit 4 (.reg .a) s)

/-- `BIT 5,B` (R240). -/
def execBit_5_B (s : State) : Outcome := .next (testBit 5 (.reg .b) s)

/-- `BIT 5,C` (R240). -/
def execBit_5_C (s : State) : Outcome := .next (testBit 5 (.reg .c) s)

/-- `BIT 5,D` (R240). -/
def execBit_5_D (s : State) : Outcome := .next (testBit 5 (.reg .d) s)

/-- `BIT 5,E` (R240). -/
def execBit_5_E (s : State) : Outcome := .next (testBit 5 (.reg .e) s)

/-- `BIT 5,H` (R240). -/
def execBit_5_H (s : State) : Outcome := .next (testBit 5 (.reg .h) s)

/-- `BIT 5,L` (R240). -/
def execBit_5_L (s : State) : Outcome := .next (testBit 5 (.reg .l) s)

/-- `BIT 5,(HL)` (R240). -/
def execBit_5_atHL (s : State) : Outcome := .next (testBit 5 .atHL s)

/-- `BIT 5,A` (R240). -/
def execBit_5_A (s : State) : Outcome := .next (testBit 5 (.reg .a) s)

/-- `BIT 6,B` (R240). -/
def execBit_6_B (s : State) : Outcome := .next (testBit 6 (.reg .b) s)

/-- `BIT 6,C` (R240). -/
def execBit_6_C (s : State) : Outcome := .next (testBit 6 (.reg .c) s)

/-- `BIT 6,D` (R240). -/
def execBit_6_D (s : State) : Outcome := .next (testBit 6 (.reg .d) s)

/-- `BIT 6,E` (R240). -/
def execBit_6_E (s : State) : Outcome := .next (testBit 6 (.reg .e) s)

/-- `BIT 6,H` (R240). -/
def execBit_6_H (s : State) : Outcome := .next (testBit 6 (.reg .h) s)

/-- `BIT 6,L` (R240). -/
def execBit_6_L (s : State) : Outcome := .next (testBit 6 (.reg .l) s)

/-- `BIT 6,(HL)` (R240). -/
def execBit_6_atHL (s : State) : Outcome := .next (testBit 6 .atHL s)

/-- `BIT 6,A` (R240). -/
def execBit_6_A (s : State) : Outcome := .next (testBit 6 (.reg .a) s)

/-- `BIT 7,B` (R240). -/
def execBit_7_B (s : State) : Outcome := .next (testBit 7 (.reg .b) s)

/-- `BIT 7,C` (R240). -/
def execBit_7_C (s : State) : Outcome := .next (testBit 7 (.reg .c) s)

/-- `BIT 7,D` (R240). -/
def execBit_7_D (s : State) : Outcome := .next (testBit 7 (.reg .d) s)

/-- `BIT 7,E` (R240). -/
def execBit_7_E (s : State) : Outcome := .next (testBit 7 (.reg .e) s)

/-- `BIT 7,H` (R240). -/
def execBit_7_H (s : State) : Outcome := .next (testBit 7 (.reg .h) s)

/-- `BIT 7,L` (R240). -/
def execBit_7_L (s : State) : Outcome := .next (testBit 7 (.reg .l) s)

/-- `BIT 7,(HL)` (R240). -/
def execBit_7_atHL (s : State) : Outcome := .next (testBit 7 .atHL s)

/-- `BIT 7,A` (R240). -/
def execBit_7_A (s : State) : Outcome := .next (testBit 7 (.reg .a) s)

/-- `RES 0,B` (R241). -/
def execRes_0_B (s : State) : Outcome := .next (resetBit 0 (.reg .b) s)

/-- `RES 0,C` (R241). -/
def execRes_0_C (s : State) : Outcome := .next (resetBit 0 (.reg .c) s)

/-- `RES 0,D` (R241). -/
def execRes_0_D (s : State) : Outcome := .next (resetBit 0 (.reg .d) s)

/-- `RES 0,E` (R241). -/
def execRes_0_E (s : State) : Outcome := .next (resetBit 0 (.reg .e) s)

/-- `RES 0,H` (R241). -/
def execRes_0_H (s : State) : Outcome := .next (resetBit 0 (.reg .h) s)

/-- `RES 0,L` (R241). -/
def execRes_0_L (s : State) : Outcome := .next (resetBit 0 (.reg .l) s)

/-- `RES 0,(HL)` (R241). -/
def execRes_0_atHL (s : State) : Outcome := .next (resetBit 0 .atHL s)

/-- `RES 0,A` (R241). -/
def execRes_0_A (s : State) : Outcome := .next (resetBit 0 (.reg .a) s)

/-- `RES 1,B` (R241). -/
def execRes_1_B (s : State) : Outcome := .next (resetBit 1 (.reg .b) s)

/-- `RES 1,C` (R241). -/
def execRes_1_C (s : State) : Outcome := .next (resetBit 1 (.reg .c) s)

/-- `RES 1,D` (R241). -/
def execRes_1_D (s : State) : Outcome := .next (resetBit 1 (.reg .d) s)

/-- `RES 1,E` (R241). -/
def execRes_1_E (s : State) : Outcome := .next (resetBit 1 (.reg .e) s)

/-- `RES 1,H` (R241). -/
def execRes_1_H (s : State) : Outcome := .next (resetBit 1 (.reg .h) s)

/-- `RES 1,L` (R241). -/
def execRes_1_L (s : State) : Outcome := .next (resetBit 1 (.reg .l) s)

/-- `RES 1,(HL)` (R241). -/
def execRes_1_atHL (s : State) : Outcome := .next (resetBit 1 .atHL s)

/-- `RES 1,A` (R241). -/
def execRes_1_A (s : State) : Outcome := .next (resetBit 1 (.reg .a) s)

/-- `RES 2,B` (R241). -/
def execRes_2_B (s : State) : Outcome := .next (resetBit 2 (.reg .b) s)

/-- `RES 2,C` (R241). -/
def execRes_2_C (s : State) : Outcome := .next (resetBit 2 (.reg .c) s)

/-- `RES 2,D` (R241). -/
def execRes_2_D (s : State) : Outcome := .next (resetBit 2 (.reg .d) s)

/-- `RES 2,E` (R241). -/
def execRes_2_E (s : State) : Outcome := .next (resetBit 2 (.reg .e) s)

/-- `RES 2,H` (R241). -/
def execRes_2_H (s : State) : Outcome := .next (resetBit 2 (.reg .h) s)

/-- `RES 2,L` (R241). -/
def execRes_2_L (s : State) : Outcome := .next (resetBit 2 (.reg .l) s)

/-- `RES 2,(HL)` (R241). -/
def execRes_2_atHL (s : State) : Outcome := .next (resetBit 2 .atHL s)

/-- `RES 2,A` (R241). -/
def execRes_2_A (s : State) : Outcome := .next (resetBit 2 (.reg .a) s)

/-- `RES 3,B` (R241). -/
def execRes_3_B (s : State) : Outcome := .next (resetBit 3 (.reg .b) s)

/-- `RES 3,C` (R241). -/
def execRes_3_C (s : State) : Outcome := .next (resetBit 3 (.reg .c) s)

/-- `RES 3,D` (R241). -/
def execRes_3_D (s : State) : Outcome := .next (resetBit 3 (.reg .d) s)

/-- `RES 3,E` (R241). -/
def execRes_3_E (s : State) : Outcome := .next (resetBit 3 (.reg .e) s)

/-- `RES 3,H` (R241). -/
def execRes_3_H (s : State) : Outcome := .next (resetBit 3 (.reg .h) s)

/-- `RES 3,L` (R241). -/
def execRes_3_L (s : State) : Outcome := .next (resetBit 3 (.reg .l) s)

/-- `RES 3,(HL)` (R241). -/
def execRes_3_atHL (s : State) : Outcome := .next (resetBit 3 .atHL s)

/-- `RES 3,A` (R241). -/
def execRes_3_A (s : State) : Outcome := .next (resetBit 3 (.reg .a) s)

/-- `RES 4,B` (R241). -/
def execRes_4_B (s : State) : Outcome := .next (resetBit 4 (.reg .b) s)

/-- `RES 4,C` (R241). -/
def execRes_4_C (s : State) : Outcome := .next (resetBit 4 (.reg .c) s)

/-- `RES 4,D` (R241). -/
def execRes_4_D (s : State) : Outcome := .next (resetBit 4 (.reg .d) s)

/-- `RES 4,E` (R241). -/
def execRes_4_E (s : State) : Outcome := .next (resetBit 4 (.reg .e) s)

/-- `RES 4,H` (R241). -/
def execRes_4_H (s : State) : Outcome := .next (resetBit 4 (.reg .h) s)

/-- `RES 4,L` (R241). -/
def execRes_4_L (s : State) : Outcome := .next (resetBit 4 (.reg .l) s)

/-- `RES 4,(HL)` (R241). -/
def execRes_4_atHL (s : State) : Outcome := .next (resetBit 4 .atHL s)

/-- `RES 4,A` (R241). -/
def execRes_4_A (s : State) : Outcome := .next (resetBit 4 (.reg .a) s)

/-- `RES 5,B` (R241). -/
def execRes_5_B (s : State) : Outcome := .next (resetBit 5 (.reg .b) s)

/-- `RES 5,C` (R241). -/
def execRes_5_C (s : State) : Outcome := .next (resetBit 5 (.reg .c) s)

/-- `RES 5,D` (R241). -/
def execRes_5_D (s : State) : Outcome := .next (resetBit 5 (.reg .d) s)

/-- `RES 5,E` (R241). -/
def execRes_5_E (s : State) : Outcome := .next (resetBit 5 (.reg .e) s)

/-- `RES 5,H` (R241). -/
def execRes_5_H (s : State) : Outcome := .next (resetBit 5 (.reg .h) s)

/-- `RES 5,L` (R241). -/
def execRes_5_L (s : State) : Outcome := .next (resetBit 5 (.reg .l) s)

/-- `RES 5,(HL)` (R241). -/
def execRes_5_atHL (s : State) : Outcome := .next (resetBit 5 .atHL s)

/-- `RES 5,A` (R241). -/
def execRes_5_A (s : State) : Outcome := .next (resetBit 5 (.reg .a) s)

/-- `RES 6,B` (R241). -/
def execRes_6_B (s : State) : Outcome := .next (resetBit 6 (.reg .b) s)

/-- `RES 6,C` (R241). -/
def execRes_6_C (s : State) : Outcome := .next (resetBit 6 (.reg .c) s)

/-- `RES 6,D` (R241). -/
def execRes_6_D (s : State) : Outcome := .next (resetBit 6 (.reg .d) s)

/-- `RES 6,E` (R241). -/
def execRes_6_E (s : State) : Outcome := .next (resetBit 6 (.reg .e) s)

/-- `RES 6,H` (R241). -/
def execRes_6_H (s : State) : Outcome := .next (resetBit 6 (.reg .h) s)

/-- `RES 6,L` (R241). -/
def execRes_6_L (s : State) : Outcome := .next (resetBit 6 (.reg .l) s)

/-- `RES 6,(HL)` (R241). -/
def execRes_6_atHL (s : State) : Outcome := .next (resetBit 6 .atHL s)

/-- `RES 6,A` (R241). -/
def execRes_6_A (s : State) : Outcome := .next (resetBit 6 (.reg .a) s)

/-- `RES 7,B` (R241). -/
def execRes_7_B (s : State) : Outcome := .next (resetBit 7 (.reg .b) s)

/-- `RES 7,C` (R241). -/
def execRes_7_C (s : State) : Outcome := .next (resetBit 7 (.reg .c) s)

/-- `RES 7,D` (R241). -/
def execRes_7_D (s : State) : Outcome := .next (resetBit 7 (.reg .d) s)

/-- `RES 7,E` (R241). -/
def execRes_7_E (s : State) : Outcome := .next (resetBit 7 (.reg .e) s)

/-- `RES 7,H` (R241). -/
def execRes_7_H (s : State) : Outcome := .next (resetBit 7 (.reg .h) s)

/-- `RES 7,L` (R241). -/
def execRes_7_L (s : State) : Outcome := .next (resetBit 7 (.reg .l) s)

/-- `RES 7,(HL)` (R241). -/
def execRes_7_atHL (s : State) : Outcome := .next (resetBit 7 .atHL s)

/-- `RES 7,A` (R241). -/
def execRes_7_A (s : State) : Outcome := .next (resetBit 7 (.reg .a) s)

/-- `SET 0,B` (R242). -/
def execSet_0_B (s : State) : Outcome := .next (setBit 0 (.reg .b) s)

/-- `SET 0,C` (R242). -/
def execSet_0_C (s : State) : Outcome := .next (setBit 0 (.reg .c) s)

/-- `SET 0,D` (R242). -/
def execSet_0_D (s : State) : Outcome := .next (setBit 0 (.reg .d) s)

/-- `SET 0,E` (R242). -/
def execSet_0_E (s : State) : Outcome := .next (setBit 0 (.reg .e) s)

/-- `SET 0,H` (R242). -/
def execSet_0_H (s : State) : Outcome := .next (setBit 0 (.reg .h) s)

/-- `SET 0,L` (R242). -/
def execSet_0_L (s : State) : Outcome := .next (setBit 0 (.reg .l) s)

/-- `SET 0,(HL)` (R242). -/
def execSet_0_atHL (s : State) : Outcome := .next (setBit 0 .atHL s)

/-- `SET 0,A` (R242). -/
def execSet_0_A (s : State) : Outcome := .next (setBit 0 (.reg .a) s)

/-- `SET 1,B` (R242). -/
def execSet_1_B (s : State) : Outcome := .next (setBit 1 (.reg .b) s)

/-- `SET 1,C` (R242). -/
def execSet_1_C (s : State) : Outcome := .next (setBit 1 (.reg .c) s)

/-- `SET 1,D` (R242). -/
def execSet_1_D (s : State) : Outcome := .next (setBit 1 (.reg .d) s)

/-- `SET 1,E` (R242). -/
def execSet_1_E (s : State) : Outcome := .next (setBit 1 (.reg .e) s)

/-- `SET 1,H` (R242). -/
def execSet_1_H (s : State) : Outcome := .next (setBit 1 (.reg .h) s)

/-- `SET 1,L` (R242). -/
def execSet_1_L (s : State) : Outcome := .next (setBit 1 (.reg .l) s)

/-- `SET 1,(HL)` (R242). -/
def execSet_1_atHL (s : State) : Outcome := .next (setBit 1 .atHL s)

/-- `SET 1,A` (R242). -/
def execSet_1_A (s : State) : Outcome := .next (setBit 1 (.reg .a) s)

/-- `SET 2,B` (R242). -/
def execSet_2_B (s : State) : Outcome := .next (setBit 2 (.reg .b) s)

/-- `SET 2,C` (R242). -/
def execSet_2_C (s : State) : Outcome := .next (setBit 2 (.reg .c) s)

/-- `SET 2,D` (R242). -/
def execSet_2_D (s : State) : Outcome := .next (setBit 2 (.reg .d) s)

/-- `SET 2,E` (R242). -/
def execSet_2_E (s : State) : Outcome := .next (setBit 2 (.reg .e) s)

/-- `SET 2,H` (R242). -/
def execSet_2_H (s : State) : Outcome := .next (setBit 2 (.reg .h) s)

/-- `SET 2,L` (R242). -/
def execSet_2_L (s : State) : Outcome := .next (setBit 2 (.reg .l) s)

/-- `SET 2,(HL)` (R242). -/
def execSet_2_atHL (s : State) : Outcome := .next (setBit 2 .atHL s)

/-- `SET 2,A` (R242). -/
def execSet_2_A (s : State) : Outcome := .next (setBit 2 (.reg .a) s)

/-- `SET 3,B` (R242). -/
def execSet_3_B (s : State) : Outcome := .next (setBit 3 (.reg .b) s)

/-- `SET 3,C` (R242). -/
def execSet_3_C (s : State) : Outcome := .next (setBit 3 (.reg .c) s)

/-- `SET 3,D` (R242). -/
def execSet_3_D (s : State) : Outcome := .next (setBit 3 (.reg .d) s)

/-- `SET 3,E` (R242). -/
def execSet_3_E (s : State) : Outcome := .next (setBit 3 (.reg .e) s)

/-- `SET 3,H` (R242). -/
def execSet_3_H (s : State) : Outcome := .next (setBit 3 (.reg .h) s)

/-- `SET 3,L` (R242). -/
def execSet_3_L (s : State) : Outcome := .next (setBit 3 (.reg .l) s)

/-- `SET 3,(HL)` (R242). -/
def execSet_3_atHL (s : State) : Outcome := .next (setBit 3 .atHL s)

/-- `SET 3,A` (R242). -/
def execSet_3_A (s : State) : Outcome := .next (setBit 3 (.reg .a) s)

/-- `SET 4,B` (R242). -/
def execSet_4_B (s : State) : Outcome := .next (setBit 4 (.reg .b) s)

/-- `SET 4,C` (R242). -/
def execSet_4_C (s : State) : Outcome := .next (setBit 4 (.reg .c) s)

/-- `SET 4,D` (R242). -/
def execSet_4_D (s : State) : Outcome := .next (setBit 4 (.reg .d) s)

/-- `SET 4,E` (R242). -/
def execSet_4_E (s : State) : Outcome := .next (setBit 4 (.reg .e) s)

/-- `SET 4,H` (R242). -/
def execSet_4_H (s : State) : Outcome := .next (setBit 4 (.reg .h) s)

/-- `SET 4,L` (R242). -/
def execSet_4_L (s : State) : Outcome := .next (setBit 4 (.reg .l) s)

/-- `SET 4,(HL)` (R242). -/
def execSet_4_atHL (s : State) : Outcome := .next (setBit 4 .atHL s)

/-- `SET 4,A` (R242). -/
def execSet_4_A (s : State) : Outcome := .next (setBit 4 (.reg .a) s)

/-- `SET 5,B` (R242). -/
def execSet_5_B (s : State) : Outcome := .next (setBit 5 (.reg .b) s)

/-- `SET 5,C` (R242). -/
def execSet_5_C (s : State) : Outcome := .next (setBit 5 (.reg .c) s)

/-- `SET 5,D` (R242). -/
def execSet_5_D (s : State) : Outcome := .next (setBit 5 (.reg .d) s)

/-- `SET 5,E` (R242). -/
def execSet_5_E (s : State) : Outcome := .next (setBit 5 (.reg .e) s)

/-- `SET 5,H` (R242). -/
def execSet_5_H (s : State) : Outcome := .next (setBit 5 (.reg .h) s)

/-- `SET 5,L` (R242). -/
def execSet_5_L (s : State) : Outcome := .next (setBit 5 (.reg .l) s)

/-- `SET 5,(HL)` (R242). -/
def execSet_5_atHL (s : State) : Outcome := .next (setBit 5 .atHL s)

/-- `SET 5,A` (R242). -/
def execSet_5_A (s : State) : Outcome := .next (setBit 5 (.reg .a) s)

/-- `SET 6,B` (R242). -/
def execSet_6_B (s : State) : Outcome := .next (setBit 6 (.reg .b) s)

/-- `SET 6,C` (R242). -/
def execSet_6_C (s : State) : Outcome := .next (setBit 6 (.reg .c) s)

/-- `SET 6,D` (R242). -/
def execSet_6_D (s : State) : Outcome := .next (setBit 6 (.reg .d) s)

/-- `SET 6,E` (R242). -/
def execSet_6_E (s : State) : Outcome := .next (setBit 6 (.reg .e) s)

/-- `SET 6,H` (R242). -/
def execSet_6_H (s : State) : Outcome := .next (setBit 6 (.reg .h) s)

/-- `SET 6,L` (R242). -/
def execSet_6_L (s : State) : Outcome := .next (setBit 6 (.reg .l) s)

/-- `SET 6,(HL)` (R242). -/
def execSet_6_atHL (s : State) : Outcome := .next (setBit 6 .atHL s)

/-- `SET 6,A` (R242). -/
def execSet_6_A (s : State) : Outcome := .next (setBit 6 (.reg .a) s)

/-- `SET 7,B` (R242). -/
def execSet_7_B (s : State) : Outcome := .next (setBit 7 (.reg .b) s)

/-- `SET 7,C` (R242). -/
def execSet_7_C (s : State) : Outcome := .next (setBit 7 (.reg .c) s)

/-- `SET 7,D` (R242). -/
def execSet_7_D (s : State) : Outcome := .next (setBit 7 (.reg .d) s)

/-- `SET 7,E` (R242). -/
def execSet_7_E (s : State) : Outcome := .next (setBit 7 (.reg .e) s)

/-- `SET 7,H` (R242). -/
def execSet_7_H (s : State) : Outcome := .next (setBit 7 (.reg .h) s)

/-- `SET 7,L` (R242). -/
def execSet_7_L (s : State) : Outcome := .next (setBit 7 (.reg .l) s)

/-- `SET 7,(HL)` (R242). -/
def execSet_7_atHL (s : State) : Outcome := .next (setBit 7 .atHL s)

/-- `SET 7,A` (R242). -/
def execSet_7_A (s : State) : Outcome := .next (setBit 7 (.reg .a) s)

end Sys2Proof.Machine
end

