-- ==== Sys2Proof/Machine/Call.lean ====
section
/-! DEFINITION. Calls, restarts and returns (48_call_restart_return.md R260–R266): no flag is written. -/

namespace Sys2Proof.Machine

/-! ### Shared operations -/

/-- `CALL cc,nn` (R261): not taken, nothing is pushed. -/
def callIf (cc : Cond) (nn : Word) (s : State) : State :=
  if s.cond cc then (s.advance 3).callTo nn else s.advance 3

/-- `RET cc` (R263): not taken, `SP` and memory are untouched. -/
def returnIf (cc : Cond) (s : State) : State :=
  if s.cond cc then (s.advance 1).returnFromStack else s.advance 1

/-- `RST t` with `t = y * 8` (R264): a call of one byte with a fixed target. -/
def restart (y : Fin 8) (s : State) : State := (s.advance 1).callTo (restartVector y)

/-! ### The instructions -/

/-- `CALL nn` (R260). -/
def execCall_nn (nn : Word) (s : State) : Outcome := .next ((s.advance 3).callTo nn)

/-- `CALL NZ,nn` (R261). -/
def execCall_NZ_nn (nn : Word) (s : State) : Outcome := .next (callIf .nz nn s)

/-- `CALL Z,nn` (R261). -/
def execCall_Z_nn (nn : Word) (s : State) : Outcome := .next (callIf .z nn s)

/-- `CALL NC,nn` (R261). -/
def execCall_NC_nn (nn : Word) (s : State) : Outcome := .next (callIf .nc nn s)

/-- `CALL C,nn` (R261). -/
def execCall_C_nn (nn : Word) (s : State) : Outcome := .next (callIf .c nn s)

/-- `RET` (R262). -/
def execRet (s : State) : Outcome := .next ((s.advance 1).returnFromStack)

/-- `RET NZ` (R263). -/
def execRet_NZ (s : State) : Outcome := .next (returnIf .nz s)

/-- `RET Z` (R263). -/
def execRet_Z (s : State) : Outcome := .next (returnIf .z s)

/-- `RET NC` (R263). -/
def execRet_NC (s : State) : Outcome := .next (returnIf .nc s)

/-- `RET C` (R263). -/
def execRet_C (s : State) : Outcome := .next (returnIf .c s)

/-- `RST 0x00` (R264). -/
def execRst_00 (s : State) : Outcome := .next (restart 0 s)

/-- `RST 0x08` (R264). -/
def execRst_08 (s : State) : Outcome := .next (restart 1 s)

/-- `RST 0x10` (R264). -/
def execRst_10 (s : State) : Outcome := .next (restart 2 s)

/-- `RST 0x18` (R264). -/
def execRst_18 (s : State) : Outcome := .next (restart 3 s)

/-- `RST 0x20` (R264). -/
def execRst_20 (s : State) : Outcome := .next (restart 4 s)

/-- `RST 0x28` (R264). -/
def execRst_28 (s : State) : Outcome := .next (restart 5 s)

/-- `RST 0x30` (R264). -/
def execRst_30 (s : State) : Outcome := .next (restart 6 s)

/-- `RST 0x38` (R264). -/
def execRst_38 (s : State) : Outcome := .next (restart 7 s)

/-- `RETI` (R266): `IME` is set at once; nothing is restored but `PC` (R310). -/
def execReti (s : State) : Outcome := .next ((s.advance 1).returnFromStack.setIme true false)

end Sys2Proof.Machine
end

