-- ==== Sys2Proof/Machine/DecodeErrors.lean ====
section
/-! DEFINITION. The bytes that decode to no instruction (30_encoding.md R85, R96, R97; 60_exceptions.md R300): each takes the
DecodeError, on the state as it was before the step. -/

namespace Sys2Proof.Machine

/-- An unmapped main-page byte (R97, R300): takes the DecodeError. -/
def execUnmapped (op : Byte) (s : State) : Outcome := .next (s.raiseDecodeError [op])

/-- The byte 0xCB with `CB_PAGE = absent` (R85, R96, R300): takes the DecodeError; the byte after it is not fetched. -/
def execPrefixCB (s : State) : Outcome := .next (s.raiseDecodeError [0xCB#8])

end Sys2Proof.Machine
end

