-- ==== Sys2Proof/Machine/Jump.lean ====
section
/-! DEFINITION. Jumps (47_jump.md R250–R254): no flag is written, and operand bytes are consumed whether or not the jump is taken. -/

namespace Sys2Proof.Machine

/-! ### Shared operations -/

/-- `JP cc,nn` (R252). -/
def jumpIf (cc : Cond) (nn : Word) (s : State) : State :=
  if s.cond cc then (s.advance 3).setPc nn else s.advance 3

/-- `JR cc,e` (R253). -/
def jumpRelativeIf (cc : Cond) (e : Byte) (s : State) : State :=
  if s.cond cc then (s.advance 2).jumpRelative e else s.advance 2

/-! ### The instructions -/

/-- `JP nn` (R250). -/
def execJp_nn (nn : Word) (s : State) : Outcome := .next ((s.advance 3).setPc nn)

/-- `JR e` (R251). -/
def execJr_e (e : Byte) (s : State) : Outcome := .next ((s.advance 2).jumpRelative e)

/-- `JP NZ,nn` (R252). -/
def execJp_NZ_nn (nn : Word) (s : State) : Outcome := .next (jumpIf .nz nn s)

/-- `JP Z,nn` (R252). -/
def execJp_Z_nn (nn : Word) (s : State) : Outcome := .next (jumpIf .z nn s)

/-- `JP NC,nn` (R252). -/
def execJp_NC_nn (nn : Word) (s : State) : Outcome := .next (jumpIf .nc nn s)

/-- `JP C,nn` (R252). -/
def execJp_C_nn (nn : Word) (s : State) : Outcome := .next (jumpIf .c nn s)

/-- `JR NZ,e` (R253). -/
def execJr_NZ_e (e : Byte) (s : State) : Outcome := .next (jumpRelativeIf .nz e s)

/-- `JR Z,e` (R253). -/
def execJr_Z_e (e : Byte) (s : State) : Outcome := .next (jumpRelativeIf .z e s)

/-- `JR NC,e` (R253). -/
def execJr_NC_e (e : Byte) (s : State) : Outcome := .next (jumpRelativeIf .nc e s)

/-- `JR C,e` (R253). -/
def execJr_C_e (e : Byte) (s : State) : Outcome := .next (jumpRelativeIf .c e s)

/-- `JP HL` (R254): no memory is read. -/
def execJp_HL (s : State) : Outcome := .next ((s.advance 1).setPc (s.getPair .hl))

end Sys2Proof.Machine
end

