-- ==== Sys2Proof/Machine/Load16.lean ====
section
/-! DEFINITION. 16-bit loads and the stack instructions (41_load16.md R140–R147). -/

namespace Sys2Proof.Machine

/-! ### Shared operations -/

/-- `nn <- FetchWord(); x[rr] <- nn` (R140). -/
def ldReg16Imm (r : Reg16) (nn : Word) (s : State) : State := (s.advance 3).setReg16 r nn

/-- `nn <- FetchWord(); MemWrite(nn, 2, SP)` (R141). -/
def storeSp (nn : Word) (s : State) : State := (s.advance 3).memWrite16 nn s.sp

/-- `LD HL,SP+e` (R143): the result and flags of `SpOffset` (R193) under the configured rule. -/
def ldHlSpOffset (e : Byte) (s : State) : State :=
  let r := spOffset s.config.spOffsetFlags (s.getFlag .z) s.sp e
  ((s.advance 2).setPair .hl r.res).setFlagsFrom r

/-- `Push16(x[rr])` (R144, R145). -/
def pushPair (p : Pair) (s : State) : State := (s.advance 1).push16 (s.getPair p)

/-- `v <- Pop16(); x[rr] <- v` (R146, R147). -/
def popPair (p : Pair) (s : State) : State := (s.advance 1).popDone.setPair p s.popValue

/-! ### The instructions -/

/-- `LD BC,nn` (R140). -/
def execLd_BC_nn (nn : Word) (s : State) : Outcome := .next (ldReg16Imm .bc nn s)

/-- `LD DE,nn` (R140). -/
def execLd_DE_nn (nn : Word) (s : State) : Outcome := .next (ldReg16Imm .de nn s)

/-- `LD HL,nn` (R140). -/
def execLd_HL_nn (nn : Word) (s : State) : Outcome := .next (ldReg16Imm .hl nn s)

/-- `LD SP,nn` (R140). -/
def execLd_SP_nn (nn : Word) (s : State) : Outcome := .next (ldReg16Imm .sp nn s)

/-- `LD (nn),SP` (R141). -/
def execLd_atNN_SP (nn : Word) (s : State) : Outcome := .next (storeSp nn s)

/-- `LD SP,HL` (R142). -/
def execLd_SP_HL (s : State) : Outcome := .next ((s.advance 1).setSp (s.getPair .hl))

/-- `LD HL,SP+e` (R143, R193): `SP` is not changed. -/
def execLd_HL_SPe (e : Byte) (s : State) : Outcome := .next (ldHlSpOffset e s)

/-- `PUSH BC` (R144). -/
def execPush_BC (s : State) : Outcome := .next (pushPair .bc s)

/-- `PUSH DE` (R144). -/
def execPush_DE (s : State) : Outcome := .next (pushPair .de s)

/-- `PUSH HL` (R144). -/
def execPush_HL (s : State) : Outcome := .next (pushPair .hl s)

/-- `PUSH AF` (R145): the low byte pushed is a read of `F`. -/
def execPush_AF (s : State) : Outcome := .next (pushPair .af s)

/-- `POP BC` (R146). -/
def execPop_BC (s : State) : Outcome := .next (popPair .bc s)

/-- `POP DE` (R146). -/
def execPop_DE (s : State) : Outcome := .next (popPair .de s)

/-- `POP HL` (R146). -/
def execPop_HL (s : State) : Outcome := .next (popPair .hl s)

/-- `POP AF` (R147): the popped low nibble is discarded. -/
def execPop_AF (s : State) : Outcome := .next (popPair .af s)

end Sys2Proof.Machine
end

