-- ==== Sys2Proof/Machine/Load8.lean ====
section
/-! DEFINITION. 8-bit loads (40_load8.md R110–R128): no flag is written. -/

namespace Sys2Proof.Machine

/-! ### Shared operations -/

/-- `x[dst] <- x[r]` (R110). -/
def ldRegReg (dst r : Reg) (s : State) : State := (s.advance 1).setReg dst (s.getReg r)

/-- `n <- FetchByte(); x[dst] <- n` (R111). -/
def ldRegImm (dst : Reg) (n : Byte) (s : State) : State := (s.advance 2).setReg dst n

/-- `x[dst] <- MemRead(HL, 1)` (R112): the address is `HL` before the write. -/
def ldRegMem (dst : Reg) (s : State) : State := (s.advance 1).setReg dst (s.memRead (s.getPair .hl))

/-- `MemWrite(HL, 1, x[r])` (R113). -/
def ldMemReg (r : Reg) (s : State) : State := (s.advance 1).memWrite (s.getPair .hl) (s.getReg r)

/-- `n <- FetchByte(); MemWrite(HL, 1, n)` (R114). -/
def ldMemImm (n : Byte) (s : State) : State := (s.advance 2).memWrite (s.getPair .hl) n

/-- `A <- MemRead(addr, 1)` by an instruction of `len` bytes (R115, R116, R119, R121, R123). -/
def loadA (len : Nat) (addr : Word) (s : State) : State := (s.advance len).setReg .a (s.memRead addr)

/-- `MemWrite(addr, 1, A)` by an instruction of `len` bytes (R117, R118, R120, R122, R124). -/
def storeA (len : Nat) (addr : Word) (s : State) : State := (s.advance len).memWrite addr s.a

/-- `HL <- (HL + 1) mod 2^16` (R125, R127): no flag is written. -/
def incHL (s : State) : State := s.setPair .hl (s.getPair .hl + 1)

/-- `HL <- (HL - 1) mod 2^16` (R126, R128): no flag is written. -/
def decHL (s : State) : State := s.setPair .hl (s.getPair .hl - 1)

/-! ### The instructions -/

/-- `LD B,B` (R110). -/
def execLd_B_B (s : State) : Outcome := .next (ldRegReg .b .b s)

/-- `LD B,C` (R110). -/
def execLd_B_C (s : State) : Outcome := .next (ldRegReg .b .c s)

/-- `LD B,D` (R110). -/
def execLd_B_D (s : State) : Outcome := .next (ldRegReg .b .d s)

/-- `LD B,E` (R110). -/
def execLd_B_E (s : State) : Outcome := .next (ldRegReg .b .e s)

/-- `LD B,H` (R110). -/
def execLd_B_H (s : State) : Outcome := .next (ldRegReg .b .h s)

/-- `LD B,L` (R110). -/
def execLd_B_L (s : State) : Outcome := .next (ldRegReg .b .l s)

/-- `LD B,A` (R110). -/
def execLd_B_A (s : State) : Outcome := .next (ldRegReg .b .a s)

/-- `LD C,B` (R110). -/
def execLd_C_B (s : State) : Outcome := .next (ldRegReg .c .b s)

/-- `LD C,C` (R110). -/
def execLd_C_C (s : State) : Outcome := .next (ldRegReg .c .c s)

/-- `LD C,D` (R110). -/
def execLd_C_D (s : State) : Outcome := .next (ldRegReg .c .d s)

/-- `LD C,E` (R110). -/
def execLd_C_E (s : State) : Outcome := .next (ldRegReg .c .e s)

/-- `LD C,H` (R110). -/
def execLd_C_H (s : State) : Outcome := .next (ldRegReg .c .h s)

/-- `LD C,L` (R110). -/
def execLd_C_L (s : State) : Outcome := .next (ldRegReg .c .l s)

/-- `LD C,A` (R110). -/
def execLd_C_A (s : State) : Outcome := .next (ldRegReg .c .a s)

/-- `LD D,B` (R110). -/
def execLd_D_B (s : State) : Outcome := .next (ldRegReg .d .b s)

/-- `LD D,C` (R110). -/
def execLd_D_C (s : State) : Outcome := .next (ldRegReg .d .c s)

/-- `LD D,D` (R110). -/
def execLd_D_D (s : State) : Outcome := .next (ldRegReg .d .d s)

/-- `LD D,E` (R110). -/
def execLd_D_E (s : State) : Outcome := .next (ldRegReg .d .e s)

/-- `LD D,H` (R110). -/
def execLd_D_H (s : State) : Outcome := .next (ldRegReg .d .h s)

/-- `LD D,L` (R110). -/
def execLd_D_L (s : State) : Outcome := .next (ldRegReg .d .l s)

/-- `LD D,A` (R110). -/
def execLd_D_A (s : State) : Outcome := .next (ldRegReg .d .a s)

/-- `LD E,B` (R110). -/
def execLd_E_B (s : State) : Outcome := .next (ldRegReg .e .b s)

/-- `LD E,C` (R110). -/
def execLd_E_C (s : State) : Outcome := .next (ldRegReg .e .c s)

/-- `LD E,D` (R110). -/
def execLd_E_D (s : State) : Outcome := .next (ldRegReg .e .d s)

/-- `LD E,E` (R110). -/
def execLd_E_E (s : State) : Outcome := .next (ldRegReg .e .e s)

/-- `LD E,H` (R110). -/
def execLd_E_H (s : State) : Outcome := .next (ldRegReg .e .h s)

/-- `LD E,L` (R110). -/
def execLd_E_L (s : State) : Outcome := .next (ldRegReg .e .l s)

/-- `LD E,A` (R110). -/
def execLd_E_A (s : State) : Outcome := .next (ldRegReg .e .a s)

/-- `LD H,B` (R110). -/
def execLd_H_B (s : State) : Outcome := .next (ldRegReg .h .b s)

/-- `LD H,C` (R110). -/
def execLd_H_C (s : State) : Outcome := .next (ldRegReg .h .c s)

/-- `LD H,D` (R110). -/
def execLd_H_D (s : State) : Outcome := .next (ldRegReg .h .d s)

/-- `LD H,E` (R110). -/
def execLd_H_E (s : State) : Outcome := .next (ldRegReg .h .e s)

/-- `LD H,H` (R110). -/
def execLd_H_H (s : State) : Outcome := .next (ldRegReg .h .h s)

/-- `LD H,L` (R110). -/
def execLd_H_L (s : State) : Outcome := .next (ldRegReg .h .l s)

/-- `LD H,A` (R110). -/
def execLd_H_A (s : State) : Outcome := .next (ldRegReg .h .a s)

/-- `LD L,B` (R110). -/
def execLd_L_B (s : State) : Outcome := .next (ldRegReg .l .b s)

/-- `LD L,C` (R110). -/
def execLd_L_C (s : State) : Outcome := .next (ldRegReg .l .c s)

/-- `LD L,D` (R110). -/
def execLd_L_D (s : State) : Outcome := .next (ldRegReg .l .d s)

/-- `LD L,E` (R110). -/
def execLd_L_E (s : State) : Outcome := .next (ldRegReg .l .e s)

/-- `LD L,H` (R110). -/
def execLd_L_H (s : State) : Outcome := .next (ldRegReg .l .h s)

/-- `LD L,L` (R110). -/
def execLd_L_L (s : State) : Outcome := .next (ldRegReg .l .l s)

/-- `LD L,A` (R110). -/
def execLd_L_A (s : State) : Outcome := .next (ldRegReg .l .a s)

/-- `LD A,B` (R110). -/
def execLd_A_B (s : State) : Outcome := .next (ldRegReg .a .b s)

/-- `LD A,C` (R110). -/
def execLd_A_C (s : State) : Outcome := .next (ldRegReg .a .c s)

/-- `LD A,D` (R110). -/
def execLd_A_D (s : State) : Outcome := .next (ldRegReg .a .d s)

/-- `LD A,E` (R110). -/
def execLd_A_E (s : State) : Outcome := .next (ldRegReg .a .e s)

/-- `LD A,H` (R110). -/
def execLd_A_H (s : State) : Outcome := .next (ldRegReg .a .h s)

/-- `LD A,L` (R110). -/
def execLd_A_L (s : State) : Outcome := .next (ldRegReg .a .l s)

/-- `LD A,A` (R110). -/
def execLd_A_A (s : State) : Outcome := .next (ldRegReg .a .a s)

/-- `LD B,n` (R111). -/
def execLd_B_n (n : Byte) (s : State) : Outcome := .next (ldRegImm .b n s)

/-- `LD C,n` (R111). -/
def execLd_C_n (n : Byte) (s : State) : Outcome := .next (ldRegImm .c n s)

/-- `LD D,n` (R111). -/
def execLd_D_n (n : Byte) (s : State) : Outcome := .next (ldRegImm .d n s)

/-- `LD E,n` (R111). -/
def execLd_E_n (n : Byte) (s : State) : Outcome := .next (ldRegImm .e n s)

/-- `LD H,n` (R111). -/
def execLd_H_n (n : Byte) (s : State) : Outcome := .next (ldRegImm .h n s)

/-- `LD L,n` (R111). -/
def execLd_L_n (n : Byte) (s : State) : Outcome := .next (ldRegImm .l n s)

/-- `LD A,n` (R111). -/
def execLd_A_n (n : Byte) (s : State) : Outcome := .next (ldRegImm .a n s)

/-- `LD B,(HL)` (R112). -/
def execLd_B_atHL (s : State) : Outcome := .next (ldRegMem .b s)

/-- `LD C,(HL)` (R112). -/
def execLd_C_atHL (s : State) : Outcome := .next (ldRegMem .c s)

/-- `LD D,(HL)` (R112). -/
def execLd_D_atHL (s : State) : Outcome := .next (ldRegMem .d s)

/-- `LD E,(HL)` (R112). -/
def execLd_E_atHL (s : State) : Outcome := .next (ldRegMem .e s)

/-- `LD H,(HL)` (R112). -/
def execLd_H_atHL (s : State) : Outcome := .next (ldRegMem .h s)

/-- `LD L,(HL)` (R112). -/
def execLd_L_atHL (s : State) : Outcome := .next (ldRegMem .l s)

/-- `LD A,(HL)` (R112). -/
def execLd_A_atHL (s : State) : Outcome := .next (ldRegMem .a s)

/-- `LD (HL),B` (R113). -/
def execLd_atHL_B (s : State) : Outcome := .next (ldMemReg .b s)

/-- `LD (HL),C` (R113). -/
def execLd_atHL_C (s : State) : Outcome := .next (ldMemReg .c s)

/-- `LD (HL),D` (R113). -/
def execLd_atHL_D (s : State) : Outcome := .next (ldMemReg .d s)

/-- `LD (HL),E` (R113). -/
def execLd_atHL_E (s : State) : Outcome := .next (ldMemReg .e s)

/-- `LD (HL),H` (R113). -/
def execLd_atHL_H (s : State) : Outcome := .next (ldMemReg .h s)

/-- `LD (HL),L` (R113). -/
def execLd_atHL_L (s : State) : Outcome := .next (ldMemReg .l s)

/-- `LD (HL),A` (R113). -/
def execLd_atHL_A (s : State) : Outcome := .next (ldMemReg .a s)

/-- `LD (HL),n` (R114). -/
def execLd_atHL_n (n : Byte) (s : State) : Outcome := .next (ldMemImm n s)

/-- `LD A,(BC)` (R115). -/
def execLd_A_atBC (s : State) : Outcome := .next (loadA 1 (s.getPair .bc) s)

/-- `LD A,(DE)` (R116). -/
def execLd_A_atDE (s : State) : Outcome := .next (loadA 1 (s.getPair .de) s)

/-- `LD (BC),A` (R117). -/
def execLd_atBC_A (s : State) : Outcome := .next (storeA 1 (s.getPair .bc) s)

/-- `LD (DE),A` (R118). -/
def execLd_atDE_A (s : State) : Outcome := .next (storeA 1 (s.getPair .de) s)

/-- `LD A,(nn)` (R119). -/
def execLd_A_atNN (nn : Word) (s : State) : Outcome := .next (loadA 3 nn s)

/-- `LD (nn),A` (R120). -/
def execLd_atNN_A (nn : Word) (s : State) : Outcome := .next (storeA 3 nn s)

/-- `LDH A,(n)` (R121). -/
def execLdh_A_atN (n : Byte) (s : State) : Outcome := .next (loadA 2 (highPage n) s)

/-- `LDH (n),A` (R122). -/
def execLdh_atN_A (n : Byte) (s : State) : Outcome := .next (storeA 2 (highPage n) s)

/-- `LD A,(C)` (R123): only `C`, never `B`, forms the address. -/
def execLd_A_atC (s : State) : Outcome := .next (loadA 1 (highPage s.c) s)

/-- `LD (C),A` (R124): only `C`, never `B`, forms the address. -/
def execLd_atC_A (s : State) : Outcome := .next (storeA 1 (highPage s.c) s)

/-- `LD (HL+),A` (R125): the store, then `HL + 1`. -/
def execLd_atHLinc_A (s : State) : Outcome := .next (incHL (storeA 1 (s.getPair .hl) s))

/-- `LD (HL-),A` (R126): the store, then `HL - 1`. -/
def execLd_atHLdec_A (s : State) : Outcome := .next (decHL (storeA 1 (s.getPair .hl) s))

/-- `LD A,(HL+)` (R127): the load, then `HL + 1`. -/
def execLd_A_atHLinc (s : State) : Outcome := .next (incHL (loadA 1 (s.getPair .hl) s))

/-- `LD A,(HL-)` (R128): the load, then `HL - 1`. -/
def execLd_A_atHLdec (s : State) : Outcome := .next (decHL (loadA 1 (s.getPair .hl) s))

end Sys2Proof.Machine
end

