-- ==== Sys2Proof/Machine/Misc.lean ====
section
/-! DEFINITION. Miscellaneous and control instructions (44_misc_control.md R200–R208). -/

namespace Sys2Proof.Machine

/-! ### Shared operations -/

/-- `STOP` (R202): the operand byte is fetched when `STOP_LENGTH = 2`; then `Halted`, with its own cause. -/
def stopCore (s : State) : State :=
  match s.config.stopLength with
  | .one => (s.advance 1).enterHalted .stop
  | .two => (s.advance 2).enterHalted .stop

/-- `DAA` (R205): N is not written. -/
def decimalAdjust (s : State) : State :=
  let (res, carry) := daaAdjust s.a (s.getFlag .n) (s.getFlag .h) (s.getFlag .c)
  ((((s.advance 1).setReg .a res).writeFlag .z (decide (res = 0#8))).writeFlag .h false).writeFlag .c carry

/-- `CPL` (R206): `A <- ~A`, N and H set, Z and C not written. -/
def complementA (s : State) : State :=
  (((s.advance 1).setReg .a (~~~s.a)).writeFlag .n true).writeFlag .h true

/-! ### The instructions -/

/-- `NOP` (R200): only the fetch advances `PC`. -/
def execNop (s : State) : Outcome := .next (s.advance 1)

/-- `HALT` (R201): `PC` is left at the byte after the opcode. -/
def execHalt (s : State) : Outcome := .next ((s.advance 1).enterHalted .halt)

/-- `STOP` (R202): the operand byte, present when `STOP_LENGTH = 2`, is read and ignored. -/
def execStop (_ignored : Option Byte) (s : State) : Outcome := .next (stopCore s)

/-- `DI` (R203): clears `IME` and `IME_PENDING`. -/
def execDi (s : State) : Outcome := .next ((s.advance 1).setIme false false)

/-- `EI` (R204): `IME_PENDING <- 1`, `IME` as it is; the next step commits it (R85). -/
def execEi (s : State) : Outcome := .next ((s.advance 1).setIme s.ime true)

/-- `DAA` (R205). -/
def execDaa (s : State) : Outcome := .next (decimalAdjust s)

/-- `CPL` (R206): the one's complement (90_conflicts.md C4). -/
def execCpl (s : State) : Outcome := .next (complementA s)

/-- `SCF` (R207). -/
def execScf (s : State) : Outcome := .next ((s.advance 1).setFlagsNHC false false true)

/-- `CCF` (R208). -/
def execCcf (s : State) : Outcome := .next ((s.advance 1).setFlagsNHC false false (!s.getFlag .c))

end Sys2Proof.Machine
end

