-- ==== Sys2Proof/Machine/Rotate.lean ====
section
/-! DEFINITION. Rotates, shifts and SWAP (45_rotate_shift.md R220–R232). -/

namespace Sys2Proof.Machine

/-! ### Shared operations -/

/-- An accumulator rotate (R220–R223): the rotate of the CB page on `A`, with Z always 0. -/
def rotateA (op : ShiftOp) (s : State) : State :=
  let r := shift8 op s.a (s.getFlag .c)
  ((s.advance 1).setReg .a r.res).setFlags false r.n r.h r.c

/-- A rotate, shift or swap of the CB page on `r8(z)` (R224–R232): one read, one write, four flags. -/
def shiftOperand (op : ShiftOp) (o : Operand8) (s : State) : State :=
  let r := shift8 op (s.readOperand o) (s.getFlag .c)
  ((s.advance 2).writeOperand o r.res).setFlagsFrom r

/-! ### The instructions -/

/-- `RLCA` (R220): Z is always 0. -/
def execRlca (s : State) : Outcome := .next (rotateA .rlc s)

/-- `RRCA` (R221): Z is always 0. -/
def execRrca (s : State) : Outcome := .next (rotateA .rrc s)

/-- `RLA` (R222): Z is always 0. -/
def execRla (s : State) : Outcome := .next (rotateA .rl s)

/-- `RRA` (R223): Z is always 0. -/
def execRra (s : State) : Outcome := .next (rotateA .rr s)

/-- `RLC B` (R225). -/
def execRlc_B (s : State) : Outcome := .next (shiftOperand .rlc (.reg .b) s)

/-- `RLC C` (R225). -/
def execRlc_C (s : State) : Outcome := .next (shiftOperand .rlc (.reg .c) s)

/-- `RLC D` (R225). -/
def execRlc_D (s : State) : Outcome := .next (shiftOperand .rlc (.reg .d) s)

/-- `RLC E` (R225). -/
def execRlc_E (s : State) : Outcome := .next (shiftOperand .rlc (.reg .e) s)

/-- `RLC H` (R225). -/
def execRlc_H (s : State) : Outcome := .next (shiftOperand .rlc (.reg .h) s)

/-- `RLC L` (R225). -/
def execRlc_L (s : State) : Outcome := .next (shiftOperand .rlc (.reg .l) s)

/-- `RLC (HL)` (R225). -/
def execRlc_atHL (s : State) : Outcome := .next (shiftOperand .rlc .atHL s)

/-- `RLC A` (R225). -/
def execRlc_A (s : State) : Outcome := .next (shiftOperand .rlc (.reg .a) s)

/-- `RRC B` (R226). -/
def execRrc_B (s : State) : Outcome := .next (shiftOperand .rrc (.reg .b) s)

/-- `RRC C` (R226). -/
def execRrc_C (s : State) : Outcome := .next (shiftOperand .rrc (.reg .c) s)

/-- `RRC D` (R226). -/
def execRrc_D (s : State) : Outcome := .next (shiftOperand .rrc (.reg .d) s)

/-- `RRC E` (R226). -/
def execRrc_E (s : State) : Outcome := .next (shiftOperand .rrc (.reg .e) s)

/-- `RRC H` (R226). -/
def execRrc_H (s : State) : Outcome := .next (shiftOperand .rrc (.reg .h) s)

/-- `RRC L` (R226). -/
def execRrc_L (s : State) : Outcome := .next (shiftOperand .rrc (.reg .l) s)

/-- `RRC (HL)` (R226). -/
def execRrc_atHL (s : State) : Outcome := .next (shiftOperand .rrc .atHL s)

/-- `RRC A` (R226). -/
def execRrc_A (s : State) : Outcome := .next (shiftOperand .rrc (.reg .a) s)

/-- `RL B` (R227). -/
def execRl_B (s : State) : Outcome := .next (shiftOperand .rl (.reg .b) s)

/-- `RL C` (R227). -/
def execRl_C (s : State) : Outcome := .next (shiftOperand .rl (.reg .c) s)

/-- `RL D` (R227). -/
def execRl_D (s : State) : Outcome := .next (shiftOperand .rl (.reg .d) s)

/-- `RL E` (R227). -/
def execRl_E (s : State) : Outcome := .next (shiftOperand .rl (.reg .e) s)

/-- `RL H` (R227). -/
def execRl_H (s : State) : Outcome := .next (shiftOperand .rl (.reg .h) s)

/-- `RL L` (R227). -/
def execRl_L (s : State) : Outcome := .next (shiftOperand .rl (.reg .l) s)

/-- `RL (HL)` (R227). -/
def execRl_atHL (s : State) : Outcome := .next (shiftOperand .rl .atHL s)

/-- `RL A` (R227). -/
def execRl_A (s : State) : Outcome := .next (shiftOperand .rl (.reg .a) s)

/-- `RR B` (R228). -/
def execRr_B (s : State) : Outcome := .next (shiftOperand .rr (.reg .b) s)

/-- `RR C` (R228). -/
def execRr_C (s : State) : Outcome := .next (shiftOperand .rr (.reg .c) s)

/-- `RR D` (R228). -/
def execRr_D (s : State) : Outcome := .next (shiftOperand .rr (.reg .d) s)

/-- `RR E` (R228). -/
def execRr_E (s : State) : Outcome := .next (shiftOperand .rr (.reg .e) s)

/-- `RR H` (R228). -/
def execRr_H (s : State) : Outcome := .next (shiftOperand .rr (.reg .h) s)

/-- `RR L` (R228). -/
def execRr_L (s : State) : Outcome := .next (shiftOperand .rr (.reg .l) s)

/-- `RR (HL)` (R228). -/
def execRr_atHL (s : State) : Outcome := .next (shiftOperand .rr .atHL s)

/-- `RR A` (R228). -/
def execRr_A (s : State) : Outcome := .next (shiftOperand .rr (.reg .a) s)

/-- `SLA B` (R229). -/
def execSla_B (s : State) : Outcome := .next (shiftOperand .sla (.reg .b) s)

/-- `SLA C` (R229). -/
def execSla_C (s : State) : Outcome := .next (shiftOperand .sla (.reg .c) s)

/-- `SLA D` (R229). -/
def execSla_D (s : State) : Outcome := .next (shiftOperand .sla (.reg .d) s)

/-- `SLA E` (R229). -/
def execSla_E (s : State) : Outcome := .next (shiftOperand .sla (.reg .e) s)

/-- `SLA H` (R229). -/
def execSla_H (s : State) : Outcome := .next (shiftOperand .sla (.reg .h) s)

/-- `SLA L` (R229). -/
def execSla_L (s : State) : Outcome := .next (shiftOperand .sla (.reg .l) s)

/-- `SLA (HL)` (R229). -/
def execSla_atHL (s : State) : Outcome := .next (shiftOperand .sla .atHL s)

/-- `SLA A` (R229). -/
def execSla_A (s : State) : Outcome := .next (shiftOperand .sla (.reg .a) s)

/-- `SRA B` (R230). -/
def execSra_B (s : State) : Outcome := .next (shiftOperand .sra (.reg .b) s)

/-- `SRA C` (R230). -/
def execSra_C (s : State) : Outcome := .next (shiftOperand .sra (.reg .c) s)

/-- `SRA D` (R230). -/
def execSra_D (s : State) : Outcome := .next (shiftOperand .sra (.reg .d) s)

/-- `SRA E` (R230). -/
def execSra_E (s : State) : Outcome := .next (shiftOperand .sra (.reg .e) s)

/-- `SRA H` (R230). -/
def execSra_H (s : State) : Outcome := .next (shiftOperand .sra (.reg .h) s)

/-- `SRA L` (R230). -/
def execSra_L (s : State) : Outcome := .next (shiftOperand .sra (.reg .l) s)

/-- `SRA (HL)` (R230). -/
def execSra_atHL (s : State) : Outcome := .next (shiftOperand .sra .atHL s)

/-- `SRA A` (R230). -/
def execSra_A (s : State) : Outcome := .next (shiftOperand .sra (.reg .a) s)

/-- `SWAP B` (R231). -/
def execSwap_B (s : State) : Outcome := .next (shiftOperand .swap (.reg .b) s)

/-- `SWAP C` (R231). -/
def execSwap_C (s : State) : Outcome := .next (shiftOperand .swap (.reg .c) s)

/-- `SWAP D` (R231). -/
def execSwap_D (s : State) : Outcome := .next (shiftOperand .swap (.reg .d) s)

/-- `SWAP E` (R231). -/
def execSwap_E (s : State) : Outcome := .next (shiftOperand .swap (.reg .e) s)

/-- `SWAP H` (R231). -/
def execSwap_H (s : State) : Outcome := .next (shiftOperand .swap (.reg .h) s)

/-- `SWAP L` (R231). -/
def execSwap_L (s : State) : Outcome := .next (shiftOperand .swap (.reg .l) s)

/-- `SWAP (HL)` (R231). -/
def execSwap_atHL (s : State) : Outcome := .next (shiftOperand .swap .atHL s)

/-- `SWAP A` (R231). -/
def execSwap_A (s : State) : Outcome := .next (shiftOperand .swap (.reg .a) s)

/-- `SRL B` (R232). -/
def execSrl_B (s : State) : Outcome := .next (shiftOperand .srl (.reg .b) s)

/-- `SRL C` (R232). -/
def execSrl_C (s : State) : Outcome := .next (shiftOperand .srl (.reg .c) s)

/-- `SRL D` (R232). -/
def execSrl_D (s : State) : Outcome := .next (shiftOperand .srl (.reg .d) s)

/-- `SRL E` (R232). -/
def execSrl_E (s : State) : Outcome := .next (shiftOperand .srl (.reg .e) s)

/-- `SRL H` (R232). -/
def execSrl_H (s : State) : Outcome := .next (shiftOperand .srl (.reg .h) s)

/-- `SRL L` (R232). -/
def execSrl_L (s : State) : Outcome := .next (shiftOperand .srl (.reg .l) s)

/-- `SRL (HL)` (R232). -/
def execSrl_atHL (s : State) : Outcome := .next (shiftOperand .srl .atHL s)

/-- `SRL A` (R232). -/
def execSrl_A (s : State) : Outcome := .next (shiftOperand .srl (.reg .a) s)

end Sys2Proof.Machine
end

