-- ==== Sys2Proof/WellFormed.lean ====
section
/-! DEFINITION. Which instruction terms a core of a given configuration has, and the length of each in bytes. -/

namespace Sys2Proof

/-- The eleven unmapped bytes of the main page (30_encoding.md R97). -/
def unmappedBytes : List Byte :=
  [0xD3, 0xDB, 0xDD, 0xE3, 0xE4, 0xEB, 0xEC, 0xED, 0xF4, 0xFC, 0xFD]

/-- The well-formed instructions of a core: an `unmapped` term carries one of the eleven bytes (R97); `stop` carries its
ignored byte exactly when `STOP_LENGTH = 2` (R80); `prefixCB` exists only where the CB page is absent, and the CB-page
instructions only where it is populated (R96). Every other term is well formed. -/
def Instr.wellFormed (cfg : Config) : Instr → Bool
  | .ld_BC_nn _ => true
  | .ld_B_n _ => true
  | .ld_atNN_SP _ => true
  | .ld_C_n _ => true
  | .stop ignored => ignored.isSome == decide (cfg.stopLength = .two)
  | .ld_DE_nn _ => true
  | .ld_D_n _ => true
  | .jr_e _ => true
  | .ld_E_n _ => true
  | .jr_NZ_e _ => true
  | .ld_HL_nn _ => true
  | .ld_H_n _ => true
  | .jr_Z_e _ => true
  | .ld_L_n _ => true
  | .jr_NC_e _ => true
  | .ld_SP_nn _ => true
  | .ld_atHL_n _ => true
  | .jr_C_e _ => true
  | .ld_A_n _ => true
  | .jp_NZ_nn _ => true
  | .jp_nn _ => true
  | .call_NZ_nn _ => true
  | .add_A_n _ => true
  | .jp_Z_nn _ => true
  | .call_Z_nn _ => true
  | .call_nn _ => true
  | .adc_A_n _ => true
  | .jp_NC_nn _ => true
  | .unmapped op => unmappedBytes.contains op
  | .call_NC_nn _ => true
  | .sub_n _ => true
  | .jp_C_nn _ => true
  | .call_C_nn _ => true
  | .sbc_A_n _ => true
  | .ldh_atN_A _ => true
  | .and_n _ => true
  | .add_SP_e _ => true
  | .ld_atNN_A _ => true
  | .xor_n _ => true
  | .ldh_A_atN _ => true
  | .or_n _ => true
  | .ld_HL_SPe _ => true
  | .ld_A_atNN _ => true
  | .cp_n _ => true
  | .nop => true
  | .ld_atBC_A => true
  | .inc_BC => true
  | .inc_B => true
  | .dec_B => true
  | .rlca => true
  | .add_HL_BC => true
  | .ld_A_atBC => true
  | .dec_BC => true
  | .inc_C => true
  | .dec_C => true
  | .rrca => true
  | .ld_atDE_A => true
  | .inc_DE => true
  | .inc_D => true
  | .dec_D => true
  | .rla => true
  | .add_HL_DE => true
  | .ld_A_atDE => true
  | .dec_DE => true
  | .inc_E => true
  | .dec_E => true
  | .rra => true
  | .ld_atHLinc_A => true
  | .inc_HL => true
  | .inc_H => true
  | .dec_H => true
  | .daa => true
  | .add_HL_HL => true
  | .ld_A_atHLinc => true
  | .dec_HL => true
  | .inc_L => true
  | .dec_L => true
  | .cpl => true
  | .ld_atHLdec_A => true
  | .inc_SP => true
  | .inc_atHL => true
  | .dec_atHL => true
  | .scf => true
  | .add_HL_SP => true
  | .ld_A_atHLdec => true
  | .dec_SP => true
  | .inc_A => true
  | .dec_A => true
  | .ccf => true
  | .ld_B_B => true
  | .ld_B_C => true
  | .ld_B_D => true
  | .ld_B_E => true
  | .ld_B_H => true
  | .ld_B_L => true
  | .ld_B_atHL => true
  | .ld_B_A => true
  | .ld_C_B => true
  | .ld_C_C => true
  | .ld_C_D => true
  | .ld_C_E => true
  | .ld_C_H => true
  | .ld_C_L => true
  | .ld_C_atHL => true
  | .ld_C_A => true
  | .ld_D_B => true
  | .ld_D_C => true
  | .ld_D_D => true
  | .ld_D_E => true
  | .ld_D_H => true
  | .ld_D_L => true
  | .ld_D_atHL => true
  | .ld_D_A => true
  | .ld_E_B => true
  | .ld_E_C => true
  | .ld_E_D => true
  | .ld_E_E => true
  | .ld_E_H => true
  | .ld_E_L => true
  | .ld_E_atHL => true
  | .ld_E_A => true
  | .ld_H_B => true
  | .ld_H_C => true
  | .ld_H_D => true
  | .ld_H_E => true
  | .ld_H_H => true
  | .ld_H_L => true
  | .ld_H_atHL => true
  | .ld_H_A => true
  | .ld_L_B => true
  | .ld_L_C => true
  | .ld_L_D => true
  | .ld_L_E => true
  | .ld_L_H => true
  | .ld_L_L => true
  | .ld_L_atHL => true
  | .ld_L_A => true
  | .ld_atHL_B => true
  | .ld_atHL_C => true
  | .ld_atHL_D => true
  | .ld_atHL_E => true
  | .ld_atHL_H => true
  | .ld_atHL_L => true
  | .halt => true
  | .ld_atHL_A => true
  | .ld_A_B => true
  | .ld_A_C => true
  | .ld_A_D => true
  | .ld_A_E => true
  | .ld_A_H => true
  | .ld_A_L => true
  | .ld_A_atHL => true
  | .ld_A_A => true
  | .add_A_B => true
  | .add_A_C => true
  | .add_A_D => true
  | .add_A_E => true
  | .add_A_H => true
  | .add_A_L => true
  | .add_A_atHL => true
  | .add_A_A => true
  | .adc_A_B => true
  | .adc_A_C => true
  | .adc_A_D => true
  | .adc_A_E => true
  | .adc_A_H => true
  | .adc_A_L => true
  | .adc_A_atHL => true
  | .adc_A_A => true
  | .sub_B => true
  | .sub_C => true
  | .sub_D => true
  | .sub_E => true
  | .sub_H => true
  | .sub_L => true
  | .sub_atHL => true
  | .sub_A => true
  | .sbc_A_B => true
  | .sbc_A_C => true
  | .sbc_A_D => true
  | .sbc_A_E => true
  | .sbc_A_H => true
  | .sbc_A_L => true
  | .sbc_A_atHL => true
  | .sbc_A_A => true
  | .and_B => true
  | .and_C => true
  | .and_D => true
  | .and_E => true
  | .and_H => true
  | .and_L => true
  | .and_atHL => true
  | .and_A => true
  | .xor_B => true
  | .xor_C => true
  | .xor_D => true
  | .xor_E => true
  | .xor_H => true
  | .xor_L => true
  | .xor_atHL => true
  | .xor_A => true
  | .or_B => true
  | .or_C => true
  | .or_D => true
  | .or_E => true
  | .or_H => true
  | .or_L => true
  | .or_atHL => true
  | .or_A => true
  | .cp_B => true
  | .cp_C => true
  | .cp_D => true
  | .cp_E => true
  | .cp_H => true
  | .cp_L => true
  | .cp_atHL => true
  | .cp_A => true
  | .ret_NZ => true
  | .pop_BC => true
  | .push_BC => true
  | .rst_00 => true
  | .ret_Z => true
  | .ret => true
  | .prefixCB => decide (cfg.cbPage = .absent)
  | .rst_08 => true
  | .ret_NC => true
  | .pop_DE => true
  | .push_DE => true
  | .rst_10 => true
  | .ret_C => true
  | .reti => true
  | .rst_18 => true
  | .pop_HL => true
  | .ld_atC_A => true
  | .push_HL => true
  | .rst_20 => true
  | .jp_HL => true
  | .rst_28 => true
  | .pop_AF => true
  | .ld_A_atC => true
  | .di => true
  | .push_AF => true
  | .rst_30 => true
  | .ld_SP_HL => true
  | .ei => true
  | .rst_38 => true
  | .rlc_B => decide (cfg.cbPage = .populated)
  | .rlc_C => decide (cfg.cbPage = .populated)
  | .rlc_D => decide (cfg.cbPage = .populated)
  | .rlc_E => decide (cfg.cbPage = .populated)
  | .rlc_H => decide (cfg.cbPage = .populated)
  | .rlc_L => decide (cfg.cbPage = .populated)
  | .rlc_atHL => decide (cfg.cbPage = .populated)
  | .rlc_A => decide (cfg.cbPage = .populated)
  | .rrc_B => decide (cfg.cbPage = .populated)
  | .rrc_C => decide (cfg.cbPage = .populated)
  | .rrc_D => decide (cfg.cbPage = .populated)
  | .rrc_E => decide (cfg.cbPage = .populated)
  | .rrc_H => decide (cfg.cbPage = .populated)
  | .rrc_L => decide (cfg.cbPage = .populated)
  | .rrc_atHL => decide (cfg.cbPage = .populated)
  | .rrc_A => decide (cfg.cbPage = .populated)
  | .rl_B => decide (cfg.cbPage = .populated)
  | .rl_C => decide (cfg.cbPage = .populated)
  | .rl_D => decide (cfg.cbPage = .populated)
  | .rl_E => decide (cfg.cbPage = .populated)
  | .rl_H => decide (cfg.cbPage = .populated)
  | .rl_L => decide (cfg.cbPage = .populated)
  | .rl_atHL => decide (cfg.cbPage = .populated)
  | .rl_A => decide (cfg.cbPage = .populated)
  | .rr_B => decide (cfg.cbPage = .populated)
  | .rr_C => decide (cfg.cbPage = .populated)
  | .rr_D => decide (cfg.cbPage = .populated)
  | .rr_E => decide (cfg.cbPage = .populated)
  | .rr_H => decide (cfg.cbPage = .populated)
  | .rr_L => decide (cfg.cbPage = .populated)
  | .rr_atHL => decide (cfg.cbPage = .populated)
  | .rr_A => decide (cfg.cbPage = .populated)
  | .sla_B => decide (cfg.cbPage = .populated)
  | .sla_C => decide (cfg.cbPage = .populated)
  | .sla_D => decide (cfg.cbPage = .populated)
  | .sla_E => decide (cfg.cbPage = .populated)
  | .sla_H => decide (cfg.cbPage = .populated)
  | .sla_L => decide (cfg.cbPage = .populated)
  | .sla_atHL => decide (cfg.cbPage = .populated)
  | .sla_A => decide (cfg.cbPage = .populated)
  | .sra_B => decide (cfg.cbPage = .populated)
  | .sra_C => decide (cfg.cbPage = .populated)
  | .sra_D => decide (cfg.cbPage = .populated)
  | .sra_E => decide (cfg.cbPage = .populated)
  | .sra_H => decide (cfg.cbPage = .populated)
  | .sra_L => decide (cfg.cbPage = .populated)
  | .sra_atHL => decide (cfg.cbPage = .populated)
  | .sra_A => decide (cfg.cbPage = .populated)
  | .swap_B => decide (cfg.cbPage = .populated)
  | .swap_C => decide (cfg.cbPage = .populated)
  | .swap_D => decide (cfg.cbPage = .populated)
  | .swap_E => decide (cfg.cbPage = .populated)
  | .swap_H => decide (cfg.cbPage = .populated)
  | .swap_L => decide (cfg.cbPage = .populated)
  | .swap_atHL => decide (cfg.cbPage = .populated)
  | .swap_A => decide (cfg.cbPage = .populated)
  | .srl_B => decide (cfg.cbPage = .populated)
  | .srl_C => decide (cfg.cbPage = .populated)
  | .srl_D => decide (cfg.cbPage = .populated)
  | .srl_E => decide (cfg.cbPage = .populated)
  | .srl_H => decide (cfg.cbPage = .populated)
  | .srl_L => decide (cfg.cbPage = .populated)
  | .srl_atHL => decide (cfg.cbPage = .populated)
  | .srl_A => decide (cfg.cbPage = .populated)
  | .bit_0_B => decide (cfg.cbPage = .populated)
  | .bit_0_C => decide (cfg.cbPage = .populated)
  | .bit_0_D => decide (cfg.cbPage = .populated)
  | .bit_0_E => decide (cfg.cbPage = .populated)
  | .bit_0_H => decide (cfg.cbPage = .populated)
  | .bit_0_L => decide (cfg.cbPage = .populated)
  | .bit_0_atHL => decide (cfg.cbPage = .populated)
  | .bit_0_A => decide (cfg.cbPage = .populated)
  | .bit_1_B => decide (cfg.cbPage = .populated)
  | .bit_1_C => decide (cfg.cbPage = .populated)
  | .bit_1_D => decide (cfg.cbPage = .populated)
  | .bit_1_E => decide (cfg.cbPage = .populated)
  | .bit_1_H => decide (cfg.cbPage = .populated)
  | .bit_1_L => decide (cfg.cbPage = .populated)
  | .bit_1_atHL => decide (cfg.cbPage = .populated)
  | .bit_1_A => decide (cfg.cbPage = .populated)
  | .bit_2_B => decide (cfg.cbPage = .populated)
  | .bit_2_C => decide (cfg.cbPage = .populated)
  | .bit_2_D => decide (cfg.cbPage = .populated)
  | .bit_2_E => decide (cfg.cbPage = .populated)
  | .bit_2_H => decide (cfg.cbPage = .populated)
  | .bit_2_L => decide (cfg.cbPage = .populated)
  | .bit_2_atHL => decide (cfg.cbPage = .populated)
  | .bit_2_A => decide (cfg.cbPage = .populated)
  | .bit_3_B => decide (cfg.cbPage = .populated)
  | .bit_3_C => decide (cfg.cbPage = .populated)
  | .bit_3_D => decide (cfg.cbPage = .populated)
  | .bit_3_E => decide (cfg.cbPage = .populated)
  | .bit_3_H => decide (cfg.cbPage = .populated)
  | .bit_3_L => decide (cfg.cbPage = .populated)
  | .bit_3_atHL => decide (cfg.cbPage = .populated)
  | .bit_3_A => decide (cfg.cbPage = .populated)
  | .bit_4_B => decide (cfg.cbPage = .populated)
  | .bit_4_C => decide (cfg.cbPage = .populated)
  | .bit_4_D => decide (cfg.cbPage = .populated)
  | .bit_4_E => decide (cfg.cbPage = .populated)
  | .bit_4_H => decide (cfg.cbPage = .populated)
  | .bit_4_L => decide (cfg.cbPage = .populated)
  | .bit_4_atHL => decide (cfg.cbPage = .populated)
  | .bit_4_A => decide (cfg.cbPage = .populated)
  | .bit_5_B => decide (cfg.cbPage = .populated)
  | .bit_5_C => decide (cfg.cbPage = .populated)
  | .bit_5_D => decide (cfg.cbPage = .populated)
  | .bit_5_E => decide (cfg.cbPage = .populated)
  | .bit_5_H => decide (cfg.cbPage = .populated)
  | .bit_5_L => decide (cfg.cbPage = .populated)
  | .bit_5_atHL => decide (cfg.cbPage = .populated)
  | .bit_5_A => decide (cfg.cbPage = .populated)
  | .bit_6_B => decide (cfg.cbPage = .populated)
  | .bit_6_C => decide (cfg.cbPage = .populated)
  | .bit_6_D => decide (cfg.cbPage = .populated)
  | .bit_6_E => decide (cfg.cbPage = .populated)
  | .bit_6_H => decide (cfg.cbPage = .populated)
  | .bit_6_L => decide (cfg.cbPage = .populated)
  | .bit_6_atHL => decide (cfg.cbPage = .populated)
  | .bit_6_A => decide (cfg.cbPage = .populated)
  | .bit_7_B => decide (cfg.cbPage = .populated)
  | .bit_7_C => decide (cfg.cbPage = .populated)
  | .bit_7_D => decide (cfg.cbPage = .populated)
  | .bit_7_E => decide (cfg.cbPage = .populated)
  | .bit_7_H => decide (cfg.cbPage = .populated)
  | .bit_7_L => decide (cfg.cbPage = .populated)
  | .bit_7_atHL => decide (cfg.cbPage = .populated)
  | .bit_7_A => decide (cfg.cbPage = .populated)
  | .res_0_B => decide (cfg.cbPage = .populated)
  | .res_0_C => decide (cfg.cbPage = .populated)
  | .res_0_D => decide (cfg.cbPage = .populated)
  | .res_0_E => decide (cfg.cbPage = .populated)
  | .res_0_H => decide (cfg.cbPage = .populated)
  | .res_0_L => decide (cfg.cbPage = .populated)
  | .res_0_atHL => decide (cfg.cbPage = .populated)
  | .res_0_A => decide (cfg.cbPage = .populated)
  | .res_1_B => decide (cfg.cbPage = .populated)
  | .res_1_C => decide (cfg.cbPage = .populated)
  | .res_1_D => decide (cfg.cbPage = .populated)
  | .res_1_E => decide (cfg.cbPage = .populated)
  | .res_1_H => decide (cfg.cbPage = .populated)
  | .res_1_L => decide (cfg.cbPage = .populated)
  | .res_1_atHL => decide (cfg.cbPage = .populated)
  | .res_1_A => decide (cfg.cbPage = .populated)
  | .res_2_B => decide (cfg.cbPage = .populated)
  | .res_2_C => decide (cfg.cbPage = .populated)
  | .res_2_D => decide (cfg.cbPage = .populated)
  | .res_2_E => decide (cfg.cbPage = .populated)
  | .res_2_H => decide (cfg.cbPage = .populated)
  | .res_2_L => decide (cfg.cbPage = .populated)
  | .res_2_atHL => decide (cfg.cbPage = .populated)
  | .res_2_A => decide (cfg.cbPage = .populated)
  | .res_3_B => decide (cfg.cbPage = .populated)
  | .res_3_C => decide (cfg.cbPage = .populated)
  | .res_3_D => decide (cfg.cbPage = .populated)
  | .res_3_E => decide (cfg.cbPage = .populated)
  | .res_3_H => decide (cfg.cbPage = .populated)
  | .res_3_L => decide (cfg.cbPage = .populated)
  | .res_3_atHL => decide (cfg.cbPage = .populated)
  | .res_3_A => decide (cfg.cbPage = .populated)
  | .res_4_B => decide (cfg.cbPage = .populated)
  | .res_4_C => decide (cfg.cbPage = .populated)
  | .res_4_D => decide (cfg.cbPage = .populated)
  | .res_4_E => decide (cfg.cbPage = .populated)
  | .res_4_H => decide (cfg.cbPage = .populated)
  | .res_4_L => decide (cfg.cbPage = .populated)
  | .res_4_atHL => decide (cfg.cbPage = .populated)
  | .res_4_A => decide (cfg.cbPage = .populated)
  | .res_5_B => decide (cfg.cbPage = .populated)
  | .res_5_C => decide (cfg.cbPage = .populated)
  | .res_5_D => decide (cfg.cbPage = .populated)
  | .res_5_E => decide (cfg.cbPage = .populated)
  | .res_5_H => decide (cfg.cbPage = .populated)
  | .res_5_L => decide (cfg.cbPage = .populated)
  | .res_5_atHL => decide (cfg.cbPage = .populated)
  | .res_5_A => decide (cfg.cbPage = .populated)
  | .res_6_B => decide (cfg.cbPage = .populated)
  | .res_6_C => decide (cfg.cbPage = .populated)
  | .res_6_D => decide (cfg.cbPage = .populated)
  | .res_6_E => decide (cfg.cbPage = .populated)
  | .res_6_H => decide (cfg.cbPage = .populated)
  | .res_6_L => decide (cfg.cbPage = .populated)
  | .res_6_atHL => decide (cfg.cbPage = .populated)
  | .res_6_A => decide (cfg.cbPage = .populated)
  | .res_7_B => decide (cfg.cbPage = .populated)
  | .res_7_C => decide (cfg.cbPage = .populated)
  | .res_7_D => decide (cfg.cbPage = .populated)
  | .res_7_E => decide (cfg.cbPage = .populated)
  | .res_7_H => decide (cfg.cbPage = .populated)
  | .res_7_L => decide (cfg.cbPage = .populated)
  | .res_7_atHL => decide (cfg.cbPage = .populated)
  | .res_7_A => decide (cfg.cbPage = .populated)
  | .set_0_B => decide (cfg.cbPage = .populated)
  | .set_0_C => decide (cfg.cbPage = .populated)
  | .set_0_D => decide (cfg.cbPage = .populated)
  | .set_0_E => decide (cfg.cbPage = .populated)
  | .set_0_H => decide (cfg.cbPage = .populated)
  | .set_0_L => decide (cfg.cbPage = .populated)
  | .set_0_atHL => decide (cfg.cbPage = .populated)
  | .set_0_A => decide (cfg.cbPage = .populated)
  | .set_1_B => decide (cfg.cbPage = .populated)
  | .set_1_C => decide (cfg.cbPage = .populated)
  | .set_1_D => decide (cfg.cbPage = .populated)
  | .set_1_E => decide (cfg.cbPage = .populated)
  | .set_1_H => decide (cfg.cbPage = .populated)
  | .set_1_L => decide (cfg.cbPage = .populated)
  | .set_1_atHL => decide (cfg.cbPage = .populated)
  | .set_1_A => decide (cfg.cbPage = .populated)
  | .set_2_B => decide (cfg.cbPage = .populated)
  | .set_2_C => decide (cfg.cbPage = .populated)
  | .set_2_D => decide (cfg.cbPage = .populated)
  | .set_2_E => decide (cfg.cbPage = .populated)
  | .set_2_H => decide (cfg.cbPage = .populated)
  | .set_2_L => decide (cfg.cbPage = .populated)
  | .set_2_atHL => decide (cfg.cbPage = .populated)
  | .set_2_A => decide (cfg.cbPage = .populated)
  | .set_3_B => decide (cfg.cbPage = .populated)
  | .set_3_C => decide (cfg.cbPage = .populated)
  | .set_3_D => decide (cfg.cbPage = .populated)
  | .set_3_E => decide (cfg.cbPage = .populated)
  | .set_3_H => decide (cfg.cbPage = .populated)
  | .set_3_L => decide (cfg.cbPage = .populated)
  | .set_3_atHL => decide (cfg.cbPage = .populated)
  | .set_3_A => decide (cfg.cbPage = .populated)
  | .set_4_B => decide (cfg.cbPage = .populated)
  | .set_4_C => decide (cfg.cbPage = .populated)
  | .set_4_D => decide (cfg.cbPage = .populated)
  | .set_4_E => decide (cfg.cbPage = .populated)
  | .set_4_H => decide (cfg.cbPage = .populated)
  | .set_4_L => decide (cfg.cbPage = .populated)
  | .set_4_atHL => decide (cfg.cbPage = .populated)
  | .set_4_A => decide (cfg.cbPage = .populated)
  | .set_5_B => decide (cfg.cbPage = .populated)
  | .set_5_C => decide (cfg.cbPage = .populated)
  | .set_5_D => decide (cfg.cbPage = .populated)
  | .set_5_E => decide (cfg.cbPage = .populated)
  | .set_5_H => decide (cfg.cbPage = .populated)
  | .set_5_L => decide (cfg.cbPage = .populated)
  | .set_5_atHL => decide (cfg.cbPage = .populated)
  | .set_5_A => decide (cfg.cbPage = .populated)
  | .set_6_B => decide (cfg.cbPage = .populated)
  | .set_6_C => decide (cfg.cbPage = .populated)
  | .set_6_D => decide (cfg.cbPage = .populated)
  | .set_6_E => decide (cfg.cbPage = .populated)
  | .set_6_H => decide (cfg.cbPage = .populated)
  | .set_6_L => decide (cfg.cbPage = .populated)
  | .set_6_atHL => decide (cfg.cbPage = .populated)
  | .set_6_A => decide (cfg.cbPage = .populated)
  | .set_7_B => decide (cfg.cbPage = .populated)
  | .set_7_C => decide (cfg.cbPage = .populated)
  | .set_7_D => decide (cfg.cbPage = .populated)
  | .set_7_E => decide (cfg.cbPage = .populated)
  | .set_7_H => decide (cfg.cbPage = .populated)
  | .set_7_L => decide (cfg.cbPage = .populated)
  | .set_7_atHL => decide (cfg.cbPage = .populated)
  | .set_7_A => decide (cfg.cbPage = .populated)

/-- The bytes of the instruction stream an instruction takes (R80, R99, the table's length column); `prefixCB`, which
raises DecodeError without fetching a second byte (R96), is its one byte. -/
def Instr.length : Instr → Nat
  | .ld_BC_nn _ => 3
  | .ld_B_n _ => 2
  | .ld_atNN_SP _ => 3
  | .ld_C_n _ => 2
  | .stop ignored => 1 + ignored.toList.length
  | .ld_DE_nn _ => 3
  | .ld_D_n _ => 2
  | .jr_e _ => 2
  | .ld_E_n _ => 2
  | .jr_NZ_e _ => 2
  | .ld_HL_nn _ => 3
  | .ld_H_n _ => 2
  | .jr_Z_e _ => 2
  | .ld_L_n _ => 2
  | .jr_NC_e _ => 2
  | .ld_SP_nn _ => 3
  | .ld_atHL_n _ => 2
  | .jr_C_e _ => 2
  | .ld_A_n _ => 2
  | .jp_NZ_nn _ => 3
  | .jp_nn _ => 3
  | .call_NZ_nn _ => 3
  | .add_A_n _ => 2
  | .jp_Z_nn _ => 3
  | .call_Z_nn _ => 3
  | .call_nn _ => 3
  | .adc_A_n _ => 2
  | .jp_NC_nn _ => 3
  | .unmapped _ => 1
  | .call_NC_nn _ => 3
  | .sub_n _ => 2
  | .jp_C_nn _ => 3
  | .call_C_nn _ => 3
  | .sbc_A_n _ => 2
  | .ldh_atN_A _ => 2
  | .and_n _ => 2
  | .add_SP_e _ => 2
  | .ld_atNN_A _ => 3
  | .xor_n _ => 2
  | .ldh_A_atN _ => 2
  | .or_n _ => 2
  | .ld_HL_SPe _ => 2
  | .ld_A_atNN _ => 3
  | .cp_n _ => 2
  | .nop => 1
  | .ld_atBC_A => 1
  | .inc_BC => 1
  | .inc_B => 1
  | .dec_B => 1
  | .rlca => 1
  | .add_HL_BC => 1
  | .ld_A_atBC => 1
  | .dec_BC => 1
  | .inc_C => 1
  | .dec_C => 1
  | .rrca => 1
  | .ld_atDE_A => 1
  | .inc_DE => 1
  | .inc_D => 1
  | .dec_D => 1
  | .rla => 1
  | .add_HL_DE => 1
  | .ld_A_atDE => 1
  | .dec_DE => 1
  | .inc_E => 1
  | .dec_E => 1
  | .rra => 1
  | .ld_atHLinc_A => 1
  | .inc_HL => 1
  | .inc_H => 1
  | .dec_H => 1
  | .daa => 1
  | .add_HL_HL => 1
  | .ld_A_atHLinc => 1
  | .dec_HL => 1
  | .inc_L => 1
  | .dec_L => 1
  | .cpl => 1
  | .ld_atHLdec_A => 1
  | .inc_SP => 1
  | .inc_atHL => 1
  | .dec_atHL => 1
  | .scf => 1
  | .add_HL_SP => 1
  | .ld_A_atHLdec => 1
  | .dec_SP => 1
  | .inc_A => 1
  | .dec_A => 1
  | .ccf => 1
  | .ld_B_B => 1
  | .ld_B_C => 1
  | .ld_B_D => 1
  | .ld_B_E => 1
  | .ld_B_H => 1
  | .ld_B_L => 1
  | .ld_B_atHL => 1
  | .ld_B_A => 1
  | .ld_C_B => 1
  | .ld_C_C => 1
  | .ld_C_D => 1
  | .ld_C_E => 1
  | .ld_C_H => 1
  | .ld_C_L => 1
  | .ld_C_atHL => 1
  | .ld_C_A => 1
  | .ld_D_B => 1
  | .ld_D_C => 1
  | .ld_D_D => 1
  | .ld_D_E => 1
  | .ld_D_H => 1
  | .ld_D_L => 1
  | .ld_D_atHL => 1
  | .ld_D_A => 1
  | .ld_E_B => 1
  | .ld_E_C => 1
  | .ld_E_D => 1
  | .ld_E_E => 1
  | .ld_E_H => 1
  | .ld_E_L => 1
  | .ld_E_atHL => 1
  | .ld_E_A => 1
  | .ld_H_B => 1
  | .ld_H_C => 1
  | .ld_H_D => 1
  | .ld_H_E => 1
  | .ld_H_H => 1
  | .ld_H_L => 1
  | .ld_H_atHL => 1
  | .ld_H_A => 1
  | .ld_L_B => 1
  | .ld_L_C => 1
  | .ld_L_D => 1
  | .ld_L_E => 1
  | .ld_L_H => 1
  | .ld_L_L => 1
  | .ld_L_atHL => 1
  | .ld_L_A => 1
  | .ld_atHL_B => 1
  | .ld_atHL_C => 1
  | .ld_atHL_D => 1
  | .ld_atHL_E => 1
  | .ld_atHL_H => 1
  | .ld_atHL_L => 1
  | .halt => 1
  | .ld_atHL_A => 1
  | .ld_A_B => 1
  | .ld_A_C => 1
  | .ld_A_D => 1
  | .ld_A_E => 1
  | .ld_A_H => 1
  | .ld_A_L => 1
  | .ld_A_atHL => 1
  | .ld_A_A => 1
  | .add_A_B => 1
  | .add_A_C => 1
  | .add_A_D => 1
  | .add_A_E => 1
  | .add_A_H => 1
  | .add_A_L => 1
  | .add_A_atHL => 1
  | .add_A_A => 1
  | .adc_A_B => 1
  | .adc_A_C => 1
  | .adc_A_D => 1
  | .adc_A_E => 1
  | .adc_A_H => 1
  | .adc_A_L => 1
  | .adc_A_atHL => 1
  | .adc_A_A => 1
  | .sub_B => 1
  | .sub_C => 1
  | .sub_D => 1
  | .sub_E => 1
  | .sub_H => 1
  | .sub_L => 1
  | .sub_atHL => 1
  | .sub_A => 1
  | .sbc_A_B => 1
  | .sbc_A_C => 1
  | .sbc_A_D => 1
  | .sbc_A_E => 1
  | .sbc_A_H => 1
  | .sbc_A_L => 1
  | .sbc_A_atHL => 1
  | .sbc_A_A => 1
  | .and_B => 1
  | .and_C => 1
  | .and_D => 1
  | .and_E => 1
  | .and_H => 1
  | .and_L => 1
  | .and_atHL => 1
  | .and_A => 1
  | .xor_B => 1
  | .xor_C => 1
  | .xor_D => 1
  | .xor_E => 1
  | .xor_H => 1
  | .xor_L => 1
  | .xor_atHL => 1
  | .xor_A => 1
  | .or_B => 1
  | .or_C => 1
  | .or_D => 1
  | .or_E => 1
  | .or_H => 1
  | .or_L => 1
  | .or_atHL => 1
  | .or_A => 1
  | .cp_B => 1
  | .cp_C => 1
  | .cp_D => 1
  | .cp_E => 1
  | .cp_H => 1
  | .cp_L => 1
  | .cp_atHL => 1
  | .cp_A => 1
  | .ret_NZ => 1
  | .pop_BC => 1
  | .push_BC => 1
  | .rst_00 => 1
  | .ret_Z => 1
  | .ret => 1
  | .prefixCB => 1
  | .rst_08 => 1
  | .ret_NC => 1
  | .pop_DE => 1
  | .push_DE => 1
  | .rst_10 => 1
  | .ret_C => 1
  | .reti => 1
  | .rst_18 => 1
  | .pop_HL => 1
  | .ld_atC_A => 1
  | .push_HL => 1
  | .rst_20 => 1
  | .jp_HL => 1
  | .rst_28 => 1
  | .pop_AF => 1
  | .ld_A_atC => 1
  | .di => 1
  | .push_AF => 1
  | .rst_30 => 1
  | .ld_SP_HL => 1
  | .ei => 1
  | .rst_38 => 1
  | .rlc_B => 2
  | .rlc_C => 2
  | .rlc_D => 2
  | .rlc_E => 2
  | .rlc_H => 2
  | .rlc_L => 2
  | .rlc_atHL => 2
  | .rlc_A => 2
  | .rrc_B => 2
  | .rrc_C => 2
  | .rrc_D => 2
  | .rrc_E => 2
  | .rrc_H => 2
  | .rrc_L => 2
  | .rrc_atHL => 2
  | .rrc_A => 2
  | .rl_B => 2
  | .rl_C => 2
  | .rl_D => 2
  | .rl_E => 2
  | .rl_H => 2
  | .rl_L => 2
  | .rl_atHL => 2
  | .rl_A => 2
  | .rr_B => 2
  | .rr_C => 2
  | .rr_D => 2
  | .rr_E => 2
  | .rr_H => 2
  | .rr_L => 2
  | .rr_atHL => 2
  | .rr_A => 2
  | .sla_B => 2
  | .sla_C => 2
  | .sla_D => 2
  | .sla_E => 2
  | .sla_H => 2
  | .sla_L => 2
  | .sla_atHL => 2
  | .sla_A => 2
  | .sra_B => 2
  | .sra_C => 2
  | .sra_D => 2
  | .sra_E => 2
  | .sra_H => 2
  | .sra_L => 2
  | .sra_atHL => 2
  | .sra_A => 2
  | .swap_B => 2
  | .swap_C => 2
  | .swap_D => 2
  | .swap_E => 2
  | .swap_H => 2
  | .swap_L => 2
  | .swap_atHL => 2
  | .swap_A => 2
  | .srl_B => 2
  | .srl_C => 2
  | .srl_D => 2
  | .srl_E => 2
  | .srl_H => 2
  | .srl_L => 2
  | .srl_atHL => 2
  | .srl_A => 2
  | .bit_0_B => 2
  | .bit_0_C => 2
  | .bit_0_D => 2
  | .bit_0_E => 2
  | .bit_0_H => 2
  | .bit_0_L => 2
  | .bit_0_atHL => 2
  | .bit_0_A => 2
  | .bit_1_B => 2
  | .bit_1_C => 2
  | .bit_1_D => 2
  | .bit_1_E => 2
  | .bit_1_H => 2
  | .bit_1_L => 2
  | .bit_1_atHL => 2
  | .bit_1_A => 2
  | .bit_2_B => 2
  | .bit_2_C => 2
  | .bit_2_D => 2
  | .bit_2_E => 2
  | .bit_2_H => 2
  | .bit_2_L => 2
  | .bit_2_atHL => 2
  | .bit_2_A => 2
  | .bit_3_B => 2
  | .bit_3_C => 2
  | .bit_3_D => 2
  | .bit_3_E => 2
  | .bit_3_H => 2
  | .bit_3_L => 2
  | .bit_3_atHL => 2
  | .bit_3_A => 2
  | .bit_4_B => 2
  | .bit_4_C => 2
  | .bit_4_D => 2
  | .bit_4_E => 2
  | .bit_4_H => 2
  | .bit_4_L => 2
  | .bit_4_atHL => 2
  | .bit_4_A => 2
  | .bit_5_B => 2
  | .bit_5_C => 2
  | .bit_5_D => 2
  | .bit_5_E => 2
  | .bit_5_H => 2
  | .bit_5_L => 2
  | .bit_5_atHL => 2
  | .bit_5_A => 2
  | .bit_6_B => 2
  | .bit_6_C => 2
  | .bit_6_D => 2
  | .bit_6_E => 2
  | .bit_6_H => 2
  | .bit_6_L => 2
  | .bit_6_atHL => 2
  | .bit_6_A => 2
  | .bit_7_B => 2
  | .bit_7_C => 2
  | .bit_7_D => 2
  | .bit_7_E => 2
  | .bit_7_H => 2
  | .bit_7_L => 2
  | .bit_7_atHL => 2
  | .bit_7_A => 2
  | .res_0_B => 2
  | .res_0_C => 2
  | .res_0_D => 2
  | .res_0_E => 2
  | .res_0_H => 2
  | .res_0_L => 2
  | .res_0_atHL => 2
  | .res_0_A => 2
  | .res_1_B => 2
  | .res_1_C => 2
  | .res_1_D => 2
  | .res_1_E => 2
  | .res_1_H => 2
  | .res_1_L => 2
  | .res_1_atHL => 2
  | .res_1_A => 2
  | .res_2_B => 2
  | .res_2_C => 2
  | .res_2_D => 2
  | .res_2_E => 2
  | .res_2_H => 2
  | .res_2_L => 2
  | .res_2_atHL => 2
  | .res_2_A => 2
  | .res_3_B => 2
  | .res_3_C => 2
  | .res_3_D => 2
  | .res_3_E => 2
  | .res_3_H => 2
  | .res_3_L => 2
  | .res_3_atHL => 2
  | .res_3_A => 2
  | .res_4_B => 2
  | .res_4_C => 2
  | .res_4_D => 2
  | .res_4_E => 2
  | .res_4_H => 2
  | .res_4_L => 2
  | .res_4_atHL => 2
  | .res_4_A => 2
  | .res_5_B => 2
  | .res_5_C => 2
  | .res_5_D => 2
  | .res_5_E => 2
  | .res_5_H => 2
  | .res_5_L => 2
  | .res_5_atHL => 2
  | .res_5_A => 2
  | .res_6_B => 2
  | .res_6_C => 2
  | .res_6_D => 2
  | .res_6_E => 2
  | .res_6_H => 2
  | .res_6_L => 2
  | .res_6_atHL => 2
  | .res_6_A => 2
  | .res_7_B => 2
  | .res_7_C => 2
  | .res_7_D => 2
  | .res_7_E => 2
  | .res_7_H => 2
  | .res_7_L => 2
  | .res_7_atHL => 2
  | .res_7_A => 2
  | .set_0_B => 2
  | .set_0_C => 2
  | .set_0_D => 2
  | .set_0_E => 2
  | .set_0_H => 2
  | .set_0_L => 2
  | .set_0_atHL => 2
  | .set_0_A => 2
  | .set_1_B => 2
  | .set_1_C => 2
  | .set_1_D => 2
  | .set_1_E => 2
  | .set_1_H => 2
  | .set_1_L => 2
  | .set_1_atHL => 2
  | .set_1_A => 2
  | .set_2_B => 2
  | .set_2_C => 2
  | .set_2_D => 2
  | .set_2_E => 2
  | .set_2_H => 2
  | .set_2_L => 2
  | .set_2_atHL => 2
  | .set_2_A => 2
  | .set_3_B => 2
  | .set_3_C => 2
  | .set_3_D => 2
  | .set_3_E => 2
  | .set_3_H => 2
  | .set_3_L => 2
  | .set_3_atHL => 2
  | .set_3_A => 2
  | .set_4_B => 2
  | .set_4_C => 2
  | .set_4_D => 2
  | .set_4_E => 2
  | .set_4_H => 2
  | .set_4_L => 2
  | .set_4_atHL => 2
  | .set_4_A => 2
  | .set_5_B => 2
  | .set_5_C => 2
  | .set_5_D => 2
  | .set_5_E => 2
  | .set_5_H => 2
  | .set_5_L => 2
  | .set_5_atHL => 2
  | .set_5_A => 2
  | .set_6_B => 2
  | .set_6_C => 2
  | .set_6_D => 2
  | .set_6_E => 2
  | .set_6_H => 2
  | .set_6_L => 2
  | .set_6_atHL => 2
  | .set_6_A => 2
  | .set_7_B => 2
  | .set_7_C => 2
  | .set_7_D => 2
  | .set_7_E => 2
  | .set_7_H => 2
  | .set_7_L => 2
  | .set_7_atHL => 2
  | .set_7_A => 2

end Sys2Proof
end

