-- ==== Sys2Proof/Decode.lean ====
section
/-! DEFINITION. The decoder, total on any bytes, written from the maps of 30_encoding.md R95 and R96, and the encoder,
written from the `Encoding` line of each instruction's own rule. -/

namespace Sys2Proof

open Sys2Proof.Machine

/-! ### The opcode maps -/

/-- An entry of the main-page map: what the first byte selects and which operand bytes follow it (R80). -/
inductive MapEntry where
  | op (i : Instr)
  | n8 (i : Byte → Instr)
  | n16 (i : Word → Instr)
  | cb
  | stop
  | unmapped

/-- Row 0x0 of the main-page map (R95), columns 0x0 to 0xF. -/
def mainRow0 : List MapEntry :=
  [.op .nop, .n16 .ld_BC_nn, .op .ld_atBC_A, .op .inc_BC,
   .op .inc_B, .op .dec_B, .n8 .ld_B_n, .op .rlca,
   .n16 .ld_atNN_SP, .op .add_HL_BC, .op .ld_A_atBC, .op .dec_BC,
   .op .inc_C, .op .dec_C, .n8 .ld_C_n, .op .rrca]

/-- Row 0x1 of the main-page map (R95), columns 0x0 to 0xF. -/
def mainRow1 : List MapEntry :=
  [.stop, .n16 .ld_DE_nn, .op .ld_atDE_A, .op .inc_DE,
   .op .inc_D, .op .dec_D, .n8 .ld_D_n, .op .rla,
   .n8 .jr_e, .op .add_HL_DE, .op .ld_A_atDE, .op .dec_DE,
   .op .inc_E, .op .dec_E, .n8 .ld_E_n, .op .rra]

/-- Row 0x2 of the main-page map (R95), columns 0x0 to 0xF. -/
def mainRow2 : List MapEntry :=
  [.n8 .jr_NZ_e, .n16 .ld_HL_nn, .op .ld_atHLinc_A, .op .inc_HL,
   .op .inc_H, .op .dec_H, .n8 .ld_H_n, .op .daa,
   .n8 .jr_Z_e, .op .add_HL_HL, .op .ld_A_atHLinc, .op .dec_HL,
   .op .inc_L, .op .dec_L, .n8 .ld_L_n, .op .cpl]

/-- Row 0x3 of the main-page map (R95), columns 0x0 to 0xF. -/
def mainRow3 : List MapEntry :=
  [.n8 .jr_NC_e, .n16 .ld_SP_nn, .op .ld_atHLdec_A, .op .inc_SP,
   .op .inc_atHL, .op .dec_atHL, .n8 .ld_atHL_n, .op .scf,
   .n8 .jr_C_e, .op .add_HL_SP, .op .ld_A_atHLdec, .op .dec_SP,
   .op .inc_A, .op .dec_A, .n8 .ld_A_n, .op .ccf]

/-- Row 0x4 of the main-page map (R95), columns 0x0 to 0xF. -/
def mainRow4 : List MapEntry :=
  [.op .ld_B_B, .op .ld_B_C, .op .ld_B_D, .op .ld_B_E,
   .op .ld_B_H, .op .ld_B_L, .op .ld_B_atHL, .op .ld_B_A,
   .op .ld_C_B, .op .ld_C_C, .op .ld_C_D, .op .ld_C_E,
   .op .ld_C_H, .op .ld_C_L, .op .ld_C_atHL, .op .ld_C_A]

/-- Row 0x5 of the main-page map (R95), columns 0x0 to 0xF. -/
def mainRow5 : List MapEntry :=
  [.op .ld_D_B, .op .ld_D_C, .op .ld_D_D, .op .ld_D_E,
   .op .ld_D_H, .op .ld_D_L, .op .ld_D_atHL, .op .ld_D_A,
   .op .ld_E_B, .op .ld_E_C, .op .ld_E_D, .op .ld_E_E,
   .op .ld_E_H, .op .ld_E_L, .op .ld_E_atHL, .op .ld_E_A]

/-- Row 0x6 of the main-page map (R95), columns 0x0 to 0xF. -/
def mainRow6 : List MapEntry :=
  [.op .ld_H_B, .op .ld_H_C, .op .ld_H_D, .op .ld_H_E,
   .op .ld_H_H, .op .ld_H_L, .op .ld_H_atHL, .op .ld_H_A,
   .op .ld_L_B, .op .ld_L_C, .op .ld_L_D, .op .ld_L_E,
   .op .ld_L_H, .op .ld_L_L, .op .ld_L_atHL, .op .ld_L_A]

/-- Row 0x7 of the main-page map (R95), columns 0x0 to 0xF. -/
def mainRow7 : List MapEntry :=
  [.op .ld_atHL_B, .op .ld_atHL_C, .op .ld_atHL_D, .op .ld_atHL_E,
   .op .ld_atHL_H, .op .ld_atHL_L, .op .halt, .op .ld_atHL_A,
   .op .ld_A_B, .op .ld_A_C, .op .ld_A_D, .op .ld_A_E,
   .op .ld_A_H, .op .ld_A_L, .op .ld_A_atHL, .op .ld_A_A]

/-- Row 0x8 of the main-page map (R95), columns 0x0 to 0xF. -/
def mainRow8 : List MapEntry :=
  [.op .add_A_B, .op .add_A_C, .op .add_A_D, .op .add_A_E,
   .op .add_A_H, .op .add_A_L, .op .add_A_atHL, .op .add_A_A,
   .op .adc_A_B, .op .adc_A_C, .op .adc_A_D, .op .adc_A_E,
   .op .adc_A_H, .op .adc_A_L, .op .adc_A_atHL, .op .adc_A_A]

/-- Row 0x9 of the main-page map (R95), columns 0x0 to 0xF. -/
def mainRow9 : List MapEntry :=
  [.op .sub_B, .op .sub_C, .op .sub_D, .op .sub_E,
   .op .sub_H, .op .sub_L, .op .sub_atHL, .op .sub_A,
   .op .sbc_A_B, .op .sbc_A_C, .op .sbc_A_D, .op .sbc_A_E,
   .op .sbc_A_H, .op .sbc_A_L, .op .sbc_A_atHL, .op .sbc_A_A]

/-- Row 0xA of the main-page map (R95), columns 0x0 to 0xF. -/
def mainRowA : List MapEntry :=
  [.op .and_B, .op .and_C, .op .and_D, .op .and_E,
   .op .and_H, .op .and_L, .op .and_atHL, .op .and_A,
   .op .xor_B, .op .xor_C, .op .xor_D, .op .xor_E,
   .op .xor_H, .op .xor_L, .op .xor_atHL, .op .xor_A]

/-- Row 0xB of the main-page map (R95), columns 0x0 to 0xF. -/
def mainRowB : List MapEntry :=
  [.op .or_B, .op .or_C, .op .or_D, .op .or_E,
   .op .or_H, .op .or_L, .op .or_atHL, .op .or_A,
   .op .cp_B, .op .cp_C, .op .cp_D, .op .cp_E,
   .op .cp_H, .op .cp_L, .op .cp_atHL, .op .cp_A]

/-- Row 0xC of the main-page map (R95), columns 0x0 to 0xF. -/
def mainRowC : List MapEntry :=
  [.op .ret_NZ, .op .pop_BC, .n16 .jp_NZ_nn, .n16 .jp_nn,
   .n16 .call_NZ_nn, .op .push_BC, .n8 .add_A_n, .op .rst_00,
   .op .ret_Z, .op .ret, .n16 .jp_Z_nn, .cb,
   .n16 .call_Z_nn, .n16 .call_nn, .n8 .adc_A_n, .op .rst_08]

/-- Row 0xD of the main-page map (R95), columns 0x0 to 0xF. -/
def mainRowD : List MapEntry :=
  [.op .ret_NC, .op .pop_DE, .n16 .jp_NC_nn, .unmapped,
   .n16 .call_NC_nn, .op .push_DE, .n8 .sub_n, .op .rst_10,
   .op .ret_C, .op .reti, .n16 .jp_C_nn, .unmapped,
   .n16 .call_C_nn, .unmapped, .n8 .sbc_A_n, .op .rst_18]

/-- Row 0xE of the main-page map (R95), columns 0x0 to 0xF. -/
def mainRowE : List MapEntry :=
  [.n8 .ldh_atN_A, .op .pop_HL, .op .ld_atC_A, .unmapped,
   .unmapped, .op .push_HL, .n8 .and_n, .op .rst_20,
   .n8 .add_SP_e, .op .jp_HL, .n16 .ld_atNN_A, .unmapped,
   .unmapped, .unmapped, .n8 .xor_n, .op .rst_28]

/-- Row 0xF of the main-page map (R95), columns 0x0 to 0xF. -/
def mainRowF : List MapEntry :=
  [.n8 .ldh_A_atN, .op .pop_AF, .op .ld_A_atC, .op .di,
   .unmapped, .op .push_AF, .n8 .or_n, .op .rst_30,
   .n8 .ld_HL_SPe, .op .ld_SP_HL, .n16 .ld_A_atNN, .op .ei,
   .unmapped, .unmapped, .n8 .cp_n, .op .rst_38]

/-- The main-page map: the row is `op[7:4]`, the column `op[3:0]` (R95). -/
def mainMap : List (List MapEntry) :=
  [mainRow0, mainRow1, mainRow2, mainRow3, mainRow4, mainRow5, mainRow6, mainRow7,
   mainRow8, mainRow9, mainRowA, mainRowB, mainRowC, mainRowD, mainRowE, mainRowF]

/-- The CB page with `x = 0`: rotates, shifts and SWAP (`y` selects the operation) on `r8(z)`, a row per `y` (R96). -/
def cbBlock0 : List (List Instr) :=
  [[.rlc_B, .rlc_C, .rlc_D, .rlc_E, .rlc_H, .rlc_L, .rlc_atHL, .rlc_A],
   [.rrc_B, .rrc_C, .rrc_D, .rrc_E, .rrc_H, .rrc_L, .rrc_atHL, .rrc_A],
   [.rl_B, .rl_C, .rl_D, .rl_E, .rl_H, .rl_L, .rl_atHL, .rl_A],
   [.rr_B, .rr_C, .rr_D, .rr_E, .rr_H, .rr_L, .rr_atHL, .rr_A],
   [.sla_B, .sla_C, .sla_D, .sla_E, .sla_H, .sla_L, .sla_atHL, .sla_A],
   [.sra_B, .sra_C, .sra_D, .sra_E, .sra_H, .sra_L, .sra_atHL, .sra_A],
   [.swap_B, .swap_C, .swap_D, .swap_E, .swap_H, .swap_L, .swap_atHL, .swap_A],
   [.srl_B, .srl_C, .srl_D, .srl_E, .srl_H, .srl_L, .srl_atHL, .srl_A]]

/-- The CB page with `x = 1`: BIT (`y` is the bit number) on `r8(z)`, a row per `y` (R96). -/
def cbBlock1 : List (List Instr) :=
  [[.bit_0_B, .bit_0_C, .bit_0_D, .bit_0_E, .bit_0_H, .bit_0_L, .bit_0_atHL, .bit_0_A],
   [.bit_1_B, .bit_1_C, .bit_1_D, .bit_1_E, .bit_1_H, .bit_1_L, .bit_1_atHL, .bit_1_A],
   [.bit_2_B, .bit_2_C, .bit_2_D, .bit_2_E, .bit_2_H, .bit_2_L, .bit_2_atHL, .bit_2_A],
   [.bit_3_B, .bit_3_C, .bit_3_D, .bit_3_E, .bit_3_H, .bit_3_L, .bit_3_atHL, .bit_3_A],
   [.bit_4_B, .bit_4_C, .bit_4_D, .bit_4_E, .bit_4_H, .bit_4_L, .bit_4_atHL, .bit_4_A],
   [.bit_5_B, .bit_5_C, .bit_5_D, .bit_5_E, .bit_5_H, .bit_5_L, .bit_5_atHL, .bit_5_A],
   [.bit_6_B, .bit_6_C, .bit_6_D, .bit_6_E, .bit_6_H, .bit_6_L, .bit_6_atHL, .bit_6_A],
   [.bit_7_B, .bit_7_C, .bit_7_D, .bit_7_E, .bit_7_H, .bit_7_L, .bit_7_atHL, .bit_7_A]]

/-- The CB page with `x = 2`: RES (`y` is the bit number) on `r8(z)`, a row per `y` (R96). -/
def cbBlock2 : List (List Instr) :=
  [[.res_0_B, .res_0_C, .res_0_D, .res_0_E, .res_0_H, .res_0_L, .res_0_atHL, .res_0_A],
   [.res_1_B, .res_1_C, .res_1_D, .res_1_E, .res_1_H, .res_1_L, .res_1_atHL, .res_1_A],
   [.res_2_B, .res_2_C, .res_2_D, .res_2_E, .res_2_H, .res_2_L, .res_2_atHL, .res_2_A],
   [.res_3_B, .res_3_C, .res_3_D, .res_3_E, .res_3_H, .res_3_L, .res_3_atHL, .res_3_A],
   [.res_4_B, .res_4_C, .res_4_D, .res_4_E, .res_4_H, .res_4_L, .res_4_atHL, .res_4_A],
   [.res_5_B, .res_5_C, .res_5_D, .res_5_E, .res_5_H, .res_5_L, .res_5_atHL, .res_5_A],
   [.res_6_B, .res_6_C, .res_6_D, .res_6_E, .res_6_H, .res_6_L, .res_6_atHL, .res_6_A],
   [.res_7_B, .res_7_C, .res_7_D, .res_7_E, .res_7_H, .res_7_L, .res_7_atHL, .res_7_A]]

/-- The CB page with `x = 3`: SET (`y` is the bit number) on `r8(z)`, a row per `y` (R96). -/
def cbBlock3 : List (List Instr) :=
  [[.set_0_B, .set_0_C, .set_0_D, .set_0_E, .set_0_H, .set_0_L, .set_0_atHL, .set_0_A],
   [.set_1_B, .set_1_C, .set_1_D, .set_1_E, .set_1_H, .set_1_L, .set_1_atHL, .set_1_A],
   [.set_2_B, .set_2_C, .set_2_D, .set_2_E, .set_2_H, .set_2_L, .set_2_atHL, .set_2_A],
   [.set_3_B, .set_3_C, .set_3_D, .set_3_E, .set_3_H, .set_3_L, .set_3_atHL, .set_3_A],
   [.set_4_B, .set_4_C, .set_4_D, .set_4_E, .set_4_H, .set_4_L, .set_4_atHL, .set_4_A],
   [.set_5_B, .set_5_C, .set_5_D, .set_5_E, .set_5_H, .set_5_L, .set_5_atHL, .set_5_A],
   [.set_6_B, .set_6_C, .set_6_D, .set_6_E, .set_6_H, .set_6_L, .set_6_atHL, .set_6_A],
   [.set_7_B, .set_7_C, .set_7_D, .set_7_E, .set_7_H, .set_7_L, .set_7_atHL, .set_7_A]]

/-- The CB-page map by `x`, `y`, `z` (R96). -/
def cbMap : List (List (List Instr)) := [cbBlock0, cbBlock1, cbBlock2, cbBlock3]

/-- The entry of the main page the first opcode byte selects (R95). -/
def mainEntry (op : Byte) : MapEntry := (mainMap.getD (op.toNat / 16) []).getD (op.toNat % 16) .unmapped

/-- The instruction of the populated CB page the second opcode byte selects (R96); every byte selects one (the last default is never reached). -/
def cbInstr (op2 : Byte) : Instr :=
  ((cbMap.getD (op2.toNat / 64) []).getD (op2.toNat / 8 % 8) []).getD (op2.toNat % 8) .prefixCB

/-! ### The decoder -/

/-- The decoder of R86 on the instruction stream's next three bytes: `b1` and `b2` are used only by the formats that
fetch them. A DecodeError case is the term `unmapped` or `prefixCB`, whose meaning raises it. -/
def decodeBytes (cfg : Config) (b0 b1 b2 : Byte) : Instr :=
  match mainEntry b0 with
  | .op i => i
  | .n8 i => i b1
  | .n16 i => i (joinBytes b2 b1)
  | .cb =>
    match cfg.cbPage with
    | .populated => cbInstr b1
    | .absent => .prefixCB
  | .stop =>
    match cfg.stopLength with
    | .one => .stop none
    | .two => .stop (some b1)
  | .unmapped => .unmapped b0

/-- Why a list of bytes is not decoded: it ends before the instruction does. -/
inductive DecodeReject where
  /-- There is no byte at all. -/
  | noBytes
  /-- The instruction that begins with `opcode` needs more bytes than the list holds. -/
  | truncated (opcode : Byte)
deriving DecidableEq, Repr

/-- The decoder on a list of bytes: the instruction at its head and the bytes after it, or the reason there is none. -/
def decode (cfg : Config) : List Byte → Except DecodeReject (Instr × List Byte)
  | [] => .error .noBytes
  | b0 :: rest =>
    let i := decodeBytes cfg b0 (rest.getD 0 0#8) (rest.getD 1 0#8)
    if i.length ≤ rest.length + 1 then .ok (i, rest.drop (i.length - 1)) else .error (.truncated b0)

/-! ### The encoder -/

/-- The opcode byte with fields `x`, `y`, `z` (R81). -/
def opXYZ (x y z : Nat) : Byte := BitVec.ofNat 8 (x * 64 + y * 8 + z)

/-- The opcode byte with fields `x`, `p`, `q`, `z` (R81). -/
def opXPQZ (x p q z : Nat) : Byte := BitVec.ofNat 8 (x * 64 + p * 16 + q * 8 + z)

/-- The bytes of an instruction, lowest address first, from the `Encoding` line of its rule (files 40 to 48); 16-bit
immediates low byte first (R80, R83). The codes in `y` and `z` are those of R90, in `p` those of R91 and R92, and the
condition codes those of R93. -/
def encode : Instr → List Byte
  | .ld_BC_nn nn => [opXPQZ 0 0 0 1, loByte nn, hiByte nn]
  | .ld_B_n n => [opXYZ 0 0 6, n]
  | .ld_atNN_SP nn => [0x08#8, loByte nn, hiByte nn]
  | .ld_C_n n => [opXYZ 0 1 6, n]
  | .stop ignored => 0x10#8 :: ignored.toList
  | .ld_DE_nn nn => [opXPQZ 0 1 0 1, loByte nn, hiByte nn]
  | .ld_D_n n => [opXYZ 0 2 6, n]
  | .jr_e e => [0x18#8, e]
  | .ld_E_n n => [opXYZ 0 3 6, n]
  | .jr_NZ_e e => [opXYZ 0 4 0, e]
  | .ld_HL_nn nn => [opXPQZ 0 2 0 1, loByte nn, hiByte nn]
  | .ld_H_n n => [opXYZ 0 4 6, n]
  | .jr_Z_e e => [opXYZ 0 5 0, e]
  | .ld_L_n n => [opXYZ 0 5 6, n]
  | .jr_NC_e e => [opXYZ 0 6 0, e]
  | .ld_SP_nn nn => [opXPQZ 0 3 0 1, loByte nn, hiByte nn]
  | .ld_atHL_n n => [0x36#8, n]
  | .jr_C_e e => [opXYZ 0 7 0, e]
  | .ld_A_n n => [opXYZ 0 7 6, n]
  | .jp_NZ_nn nn => [opXYZ 3 0 2, loByte nn, hiByte nn]
  | .jp_nn nn => [0xC3#8, loByte nn, hiByte nn]
  | .call_NZ_nn nn => [opXYZ 3 0 4, loByte nn, hiByte nn]
  | .add_A_n n => [opXYZ 3 0 6, n]
  | .jp_Z_nn nn => [opXYZ 3 1 2, loByte nn, hiByte nn]
  | .call_Z_nn nn => [opXYZ 3 1 4, loByte nn, hiByte nn]
  | .call_nn nn => [0xCD#8, loByte nn, hiByte nn]
  | .adc_A_n n => [opXYZ 3 1 6, n]
  | .jp_NC_nn nn => [opXYZ 3 2 2, loByte nn, hiByte nn]
  | .unmapped op => [op]
  | .call_NC_nn nn => [opXYZ 3 2 4, loByte nn, hiByte nn]
  | .sub_n n => [opXYZ 3 2 6, n]
  | .jp_C_nn nn => [opXYZ 3 3 2, loByte nn, hiByte nn]
  | .call_C_nn nn => [opXYZ 3 3 4, loByte nn, hiByte nn]
  | .sbc_A_n n => [opXYZ 3 3 6, n]
  | .ldh_atN_A n => [0xE0#8, n]
  | .and_n n => [opXYZ 3 4 6, n]
  | .add_SP_e e => [0xE8#8, e]
  | .ld_atNN_A nn => [0xEA#8, loByte nn, hiByte nn]
  | .xor_n n => [opXYZ 3 5 6, n]
  | .ldh_A_atN n => [0xF0#8, n]
  | .or_n n => [opXYZ 3 6 6, n]
  | .ld_HL_SPe e => [0xF8#8, e]
  | .ld_A_atNN nn => [0xFA#8, loByte nn, hiByte nn]
  | .cp_n n => [opXYZ 3 7 6, n]
  | .nop => [0x00#8]
  | .ld_atBC_A => [0x02#8]
  | .inc_BC => [opXPQZ 0 0 0 3]
  | .inc_B => [opXYZ 0 0 4]
  | .dec_B => [opXYZ 0 0 5]
  | .rlca => [0x07#8]
  | .add_HL_BC => [opXPQZ 0 0 1 1]
  | .ld_A_atBC => [0x0A#8]
  | .dec_BC => [opXPQZ 0 0 1 3]
  | .inc_C => [opXYZ 0 1 4]
  | .dec_C => [opXYZ 0 1 5]
  | .rrca => [0x0F#8]
  | .ld_atDE_A => [0x12#8]
  | .inc_DE => [opXPQZ 0 1 0 3]
  | .inc_D => [opXYZ 0 2 4]
  | .dec_D => [opXYZ 0 2 5]
  | .rla => [0x17#8]
  | .add_HL_DE => [opXPQZ 0 1 1 1]
  | .ld_A_atDE => [0x1A#8]
  | .dec_DE => [opXPQZ 0 1 1 3]
  | .inc_E => [opXYZ 0 3 4]
  | .dec_E => [opXYZ 0 3 5]
  | .rra => [0x1F#8]
  | .ld_atHLinc_A => [0x22#8]
  | .inc_HL => [opXPQZ 0 2 0 3]
  | .inc_H => [opXYZ 0 4 4]
  | .dec_H => [opXYZ 0 4 5]
  | .daa => [0x27#8]
  | .add_HL_HL => [opXPQZ 0 2 1 1]
  | .ld_A_atHLinc => [0x2A#8]
  | .dec_HL => [opXPQZ 0 2 1 3]
  | .inc_L => [opXYZ 0 5 4]
  | .dec_L => [opXYZ 0 5 5]
  | .cpl => [0x2F#8]
  | .ld_atHLdec_A => [0x32#8]
  | .inc_SP => [opXPQZ 0 3 0 3]
  | .inc_atHL => [0x34#8]
  | .dec_atHL => [0x35#8]
  | .scf => [0x37#8]
  | .add_HL_SP => [opXPQZ 0 3 1 1]
  | .ld_A_atHLdec => [0x3A#8]
  | .dec_SP => [opXPQZ 0 3 1 3]
  | .inc_A => [opXYZ 0 7 4]
  | .dec_A => [opXYZ 0 7 5]
  | .ccf => [0x3F#8]
  | .ld_B_B => [opXYZ 1 0 0]
  | .ld_B_C => [opXYZ 1 0 1]
  | .ld_B_D => [opXYZ 1 0 2]
  | .ld_B_E => [opXYZ 1 0 3]
  | .ld_B_H => [opXYZ 1 0 4]
  | .ld_B_L => [opXYZ 1 0 5]
  | .ld_B_atHL => [opXYZ 1 0 6]
  | .ld_B_A => [opXYZ 1 0 7]
  | .ld_C_B => [opXYZ 1 1 0]
  | .ld_C_C => [opXYZ 1 1 1]
  | .ld_C_D => [opXYZ 1 1 2]
  | .ld_C_E => [opXYZ 1 1 3]
  | .ld_C_H => [opXYZ 1 1 4]
  | .ld_C_L => [opXYZ 1 1 5]
  | .ld_C_atHL => [opXYZ 1 1 6]
  | .ld_C_A => [opXYZ 1 1 7]
  | .ld_D_B => [opXYZ 1 2 0]
  | .ld_D_C => [opXYZ 1 2 1]
  | .ld_D_D => [opXYZ 1 2 2]
  | .ld_D_E => [opXYZ 1 2 3]
  | .ld_D_H => [opXYZ 1 2 4]
  | .ld_D_L => [opXYZ 1 2 5]
  | .ld_D_atHL => [opXYZ 1 2 6]
  | .ld_D_A => [opXYZ 1 2 7]
  | .ld_E_B => [opXYZ 1 3 0]
  | .ld_E_C => [opXYZ 1 3 1]
  | .ld_E_D => [opXYZ 1 3 2]
  | .ld_E_E => [opXYZ 1 3 3]
  | .ld_E_H => [opXYZ 1 3 4]
  | .ld_E_L => [opXYZ 1 3 5]
  | .ld_E_atHL => [opXYZ 1 3 6]
  | .ld_E_A => [opXYZ 1 3 7]
  | .ld_H_B => [opXYZ 1 4 0]
  | .ld_H_C => [opXYZ 1 4 1]
  | .ld_H_D => [opXYZ 1 4 2]
  | .ld_H_E => [opXYZ 1 4 3]
  | .ld_H_H => [opXYZ 1 4 4]
  | .ld_H_L => [opXYZ 1 4 5]
  | .ld_H_atHL => [opXYZ 1 4 6]
  | .ld_H_A => [opXYZ 1 4 7]
  | .ld_L_B => [opXYZ 1 5 0]
  | .ld_L_C => [opXYZ 1 5 1]
  | .ld_L_D => [opXYZ 1 5 2]
  | .ld_L_E => [opXYZ 1 5 3]
  | .ld_L_H => [opXYZ 1 5 4]
  | .ld_L_L => [opXYZ 1 5 5]
  | .ld_L_atHL => [opXYZ 1 5 6]
  | .ld_L_A => [opXYZ 1 5 7]
  | .ld_atHL_B => [opXYZ 1 6 0]
  | .ld_atHL_C => [opXYZ 1 6 1]
  | .ld_atHL_D => [opXYZ 1 6 2]
  | .ld_atHL_E => [opXYZ 1 6 3]
  | .ld_atHL_H => [opXYZ 1 6 4]
  | .ld_atHL_L => [opXYZ 1 6 5]
  | .halt => [0x76#8]
  | .ld_atHL_A => [opXYZ 1 6 7]
  | .ld_A_B => [opXYZ 1 7 0]
  | .ld_A_C => [opXYZ 1 7 1]
  | .ld_A_D => [opXYZ 1 7 2]
  | .ld_A_E => [opXYZ 1 7 3]
  | .ld_A_H => [opXYZ 1 7 4]
  | .ld_A_L => [opXYZ 1 7 5]
  | .ld_A_atHL => [opXYZ 1 7 6]
  | .ld_A_A => [opXYZ 1 7 7]
  | .add_A_B => [opXYZ 2 0 0]
  | .add_A_C => [opXYZ 2 0 1]
  | .add_A_D => [opXYZ 2 0 2]
  | .add_A_E => [opXYZ 2 0 3]
  | .add_A_H => [opXYZ 2 0 4]
  | .add_A_L => [opXYZ 2 0 5]
  | .add_A_atHL => [opXYZ 2 0 6]
  | .add_A_A => [opXYZ 2 0 7]
  | .adc_A_B => [opXYZ 2 1 0]
  | .adc_A_C => [opXYZ 2 1 1]
  | .adc_A_D => [opXYZ 2 1 2]
  | .adc_A_E => [opXYZ 2 1 3]
  | .adc_A_H => [opXYZ 2 1 4]
  | .adc_A_L => [opXYZ 2 1 5]
  | .adc_A_atHL => [opXYZ 2 1 6]
  | .adc_A_A => [opXYZ 2 1 7]
  | .sub_B => [opXYZ 2 2 0]
  | .sub_C => [opXYZ 2 2 1]
  | .sub_D => [opXYZ 2 2 2]
  | .sub_E => [opXYZ 2 2 3]
  | .sub_H => [opXYZ 2 2 4]
  | .sub_L => [opXYZ 2 2 5]
  | .sub_atHL => [opXYZ 2 2 6]
  | .sub_A => [opXYZ 2 2 7]
  | .sbc_A_B => [opXYZ 2 3 0]
  | .sbc_A_C => [opXYZ 2 3 1]
  | .sbc_A_D => [opXYZ 2 3 2]
  | .sbc_A_E => [opXYZ 2 3 3]
  | .sbc_A_H => [opXYZ 2 3 4]
  | .sbc_A_L => [opXYZ 2 3 5]
  | .sbc_A_atHL => [opXYZ 2 3 6]
  | .sbc_A_A => [opXYZ 2 3 7]
  | .and_B => [opXYZ 2 4 0]
  | .and_C => [opXYZ 2 4 1]
  | .and_D => [opXYZ 2 4 2]
  | .and_E => [opXYZ 2 4 3]
  | .and_H => [opXYZ 2 4 4]
  | .and_L => [opXYZ 2 4 5]
  | .and_atHL => [opXYZ 2 4 6]
  | .and_A => [opXYZ 2 4 7]
  | .xor_B => [opXYZ 2 5 0]
  | .xor_C => [opXYZ 2 5 1]
  | .xor_D => [opXYZ 2 5 2]
  | .xor_E => [opXYZ 2 5 3]
  | .xor_H => [opXYZ 2 5 4]
  | .xor_L => [opXYZ 2 5 5]
  | .xor_atHL => [opXYZ 2 5 6]
  | .xor_A => [opXYZ 2 5 7]
  | .or_B => [opXYZ 2 6 0]
  | .or_C => [opXYZ 2 6 1]
  | .or_D => [opXYZ 2 6 2]
  | .or_E => [opXYZ 2 6 3]
  | .or_H => [opXYZ 2 6 4]
  | .or_L => [opXYZ 2 6 5]
  | .or_atHL => [opXYZ 2 6 6]
  | .or_A => [opXYZ 2 6 7]
  | .cp_B => [opXYZ 2 7 0]
  | .cp_C => [opXYZ 2 7 1]
  | .cp_D => [opXYZ 2 7 2]
  | .cp_E => [opXYZ 2 7 3]
  | .cp_H => [opXYZ 2 7 4]
  | .cp_L => [opXYZ 2 7 5]
  | .cp_atHL => [opXYZ 2 7 6]
  | .cp_A => [opXYZ 2 7 7]
  | .ret_NZ => [opXYZ 3 0 0]
  | .pop_BC => [opXPQZ 3 0 0 1]
  | .push_BC => [opXPQZ 3 0 0 5]
  | .rst_00 => [opXYZ 3 0 7]
  | .ret_Z => [opXYZ 3 1 0]
  | .ret => [0xC9#8]
  | .prefixCB => [0xCB#8]
  | .rst_08 => [opXYZ 3 1 7]
  | .ret_NC => [opXYZ 3 2 0]
  | .pop_DE => [opXPQZ 3 1 0 1]
  | .push_DE => [opXPQZ 3 1 0 5]
  | .rst_10 => [opXYZ 3 2 7]
  | .ret_C => [opXYZ 3 3 0]
  | .reti => [0xD9#8]
  | .rst_18 => [opXYZ 3 3 7]
  | .pop_HL => [opXPQZ 3 2 0 1]
  | .ld_atC_A => [0xE2#8]
  | .push_HL => [opXPQZ 3 2 0 5]
  | .rst_20 => [opXYZ 3 4 7]
  | .jp_HL => [0xE9#8]
  | .rst_28 => [opXYZ 3 5 7]
  | .pop_AF => [0xF1#8]
  | .ld_A_atC => [0xF2#8]
  | .di => [0xF3#8]
  | .push_AF => [0xF5#8]
  | .rst_30 => [opXYZ 3 6 7]
  | .ld_SP_HL => [0xF9#8]
  | .ei => [0xFB#8]
  | .rst_38 => [opXYZ 3 7 7]
  | .rlc_B => [0xCB#8, opXYZ 0 0 0]
  | .rlc_C => [0xCB#8, opXYZ 0 0 1]
  | .rlc_D => [0xCB#8, opXYZ 0 0 2]
  | .rlc_E => [0xCB#8, opXYZ 0 0 3]
  | .rlc_H => [0xCB#8, opXYZ 0 0 4]
  | .rlc_L => [0xCB#8, opXYZ 0 0 5]
  | .rlc_atHL => [0xCB#8, opXYZ 0 0 6]
  | .rlc_A => [0xCB#8, opXYZ 0 0 7]
  | .rrc_B => [0xCB#8, opXYZ 0 1 0]
  | .rrc_C => [0xCB#8, opXYZ 0 1 1]
  | .rrc_D => [0xCB#8, opXYZ 0 1 2]
  | .rrc_E => [0xCB#8, opXYZ 0 1 3]
  | .rrc_H => [0xCB#8, opXYZ 0 1 4]
  | .rrc_L => [0xCB#8, opXYZ 0 1 5]
  | .rrc_atHL => [0xCB#8, opXYZ 0 1 6]
  | .rrc_A => [0xCB#8, opXYZ 0 1 7]
  | .rl_B => [0xCB#8, opXYZ 0 2 0]
  | .rl_C => [0xCB#8, opXYZ 0 2 1]
  | .rl_D => [0xCB#8, opXYZ 0 2 2]
  | .rl_E => [0xCB#8, opXYZ 0 2 3]
  | .rl_H => [0xCB#8, opXYZ 0 2 4]
  | .rl_L => [0xCB#8, opXYZ 0 2 5]
  | .rl_atHL => [0xCB#8, opXYZ 0 2 6]
  | .rl_A => [0xCB#8, opXYZ 0 2 7]
  | .rr_B => [0xCB#8, opXYZ 0 3 0]
  | .rr_C => [0xCB#8, opXYZ 0 3 1]
  | .rr_D => [0xCB#8, opXYZ 0 3 2]
  | .rr_E => [0xCB#8, opXYZ 0 3 3]
  | .rr_H => [0xCB#8, opXYZ 0 3 4]
  | .rr_L => [0xCB#8, opXYZ 0 3 5]
  | .rr_atHL => [0xCB#8, opXYZ 0 3 6]
  | .rr_A => [0xCB#8, opXYZ 0 3 7]
  | .sla_B => [0xCB#8, opXYZ 0 4 0]
  | .sla_C => [0xCB#8, opXYZ 0 4 1]
  | .sla_D => [0xCB#8, opXYZ 0 4 2]
  | .sla_E => [0xCB#8, opXYZ 0 4 3]
  | .sla_H => [0xCB#8, opXYZ 0 4 4]
  | .sla_L => [0xCB#8, opXYZ 0 4 5]
  | .sla_atHL => [0xCB#8, opXYZ 0 4 6]
  | .sla_A => [0xCB#8, opXYZ 0 4 7]
  | .sra_B => [0xCB#8, opXYZ 0 5 0]
  | .sra_C => [0xCB#8, opXYZ 0 5 1]
  | .sra_D => [0xCB#8, opXYZ 0 5 2]
  | .sra_E => [0xCB#8, opXYZ 0 5 3]
  | .sra_H => [0xCB#8, opXYZ 0 5 4]
  | .sra_L => [0xCB#8, opXYZ 0 5 5]
  | .sra_atHL => [0xCB#8, opXYZ 0 5 6]
  | .sra_A => [0xCB#8, opXYZ 0 5 7]
  | .swap_B => [0xCB#8, opXYZ 0 6 0]
  | .swap_C => [0xCB#8, opXYZ 0 6 1]
  | .swap_D => [0xCB#8, opXYZ 0 6 2]
  | .swap_E => [0xCB#8, opXYZ 0 6 3]
  | .swap_H => [0xCB#8, opXYZ 0 6 4]
  | .swap_L => [0xCB#8, opXYZ 0 6 5]
  | .swap_atHL => [0xCB#8, opXYZ 0 6 6]
  | .swap_A => [0xCB#8, opXYZ 0 6 7]
  | .srl_B => [0xCB#8, opXYZ 0 7 0]
  | .srl_C => [0xCB#8, opXYZ 0 7 1]
  | .srl_D => [0xCB#8, opXYZ 0 7 2]
  | .srl_E => [0xCB#8, opXYZ 0 7 3]
  | .srl_H => [0xCB#8, opXYZ 0 7 4]
  | .srl_L => [0xCB#8, opXYZ 0 7 5]
  | .srl_atHL => [0xCB#8, opXYZ 0 7 6]
  | .srl_A => [0xCB#8, opXYZ 0 7 7]
  | .bit_0_B => [0xCB#8, opXYZ 1 0 0]
  | .bit_0_C => [0xCB#8, opXYZ 1 0 1]
  | .bit_0_D => [0xCB#8, opXYZ 1 0 2]
  | .bit_0_E => [0xCB#8, opXYZ 1 0 3]
  | .bit_0_H => [0xCB#8, opXYZ 1 0 4]
  | .bit_0_L => [0xCB#8, opXYZ 1 0 5]
  | .bit_0_atHL => [0xCB#8, opXYZ 1 0 6]
  | .bit_0_A => [0xCB#8, opXYZ 1 0 7]
  | .bit_1_B => [0xCB#8, opXYZ 1 1 0]
  | .bit_1_C => [0xCB#8, opXYZ 1 1 1]
  | .bit_1_D => [0xCB#8, opXYZ 1 1 2]
  | .bit_1_E => [0xCB#8, opXYZ 1 1 3]
  | .bit_1_H => [0xCB#8, opXYZ 1 1 4]
  | .bit_1_L => [0xCB#8, opXYZ 1 1 5]
  | .bit_1_atHL => [0xCB#8, opXYZ 1 1 6]
  | .bit_1_A => [0xCB#8, opXYZ 1 1 7]
  | .bit_2_B => [0xCB#8, opXYZ 1 2 0]
  | .bit_2_C => [0xCB#8, opXYZ 1 2 1]
  | .bit_2_D => [0xCB#8, opXYZ 1 2 2]
  | .bit_2_E => [0xCB#8, opXYZ 1 2 3]
  | .bit_2_H => [0xCB#8, opXYZ 1 2 4]
  | .bit_2_L => [0xCB#8, opXYZ 1 2 5]
  | .bit_2_atHL => [0xCB#8, opXYZ 1 2 6]
  | .bit_2_A => [0xCB#8, opXYZ 1 2 7]
  | .bit_3_B => [0xCB#8, opXYZ 1 3 0]
  | .bit_3_C => [0xCB#8, opXYZ 1 3 1]
  | .bit_3_D => [0xCB#8, opXYZ 1 3 2]
  | .bit_3_E => [0xCB#8, opXYZ 1 3 3]
  | .bit_3_H => [0xCB#8, opXYZ 1 3 4]
  | .bit_3_L => [0xCB#8, opXYZ 1 3 5]
  | .bit_3_atHL => [0xCB#8, opXYZ 1 3 6]
  | .bit_3_A => [0xCB#8, opXYZ 1 3 7]
  | .bit_4_B => [0xCB#8, opXYZ 1 4 0]
  | .bit_4_C => [0xCB#8, opXYZ 1 4 1]
  | .bit_4_D => [0xCB#8, opXYZ 1 4 2]
  | .bit_4_E => [0xCB#8, opXYZ 1 4 3]
  | .bit_4_H => [0xCB#8, opXYZ 1 4 4]
  | .bit_4_L => [0xCB#8, opXYZ 1 4 5]
  | .bit_4_atHL => [0xCB#8, opXYZ 1 4 6]
  | .bit_4_A => [0xCB#8, opXYZ 1 4 7]
  | .bit_5_B => [0xCB#8, opXYZ 1 5 0]
  | .bit_5_C => [0xCB#8, opXYZ 1 5 1]
  | .bit_5_D => [0xCB#8, opXYZ 1 5 2]
  | .bit_5_E => [0xCB#8, opXYZ 1 5 3]
  | .bit_5_H => [0xCB#8, opXYZ 1 5 4]
  | .bit_5_L => [0xCB#8, opXYZ 1 5 5]
  | .bit_5_atHL => [0xCB#8, opXYZ 1 5 6]
  | .bit_5_A => [0xCB#8, opXYZ 1 5 7]
  | .bit_6_B => [0xCB#8, opXYZ 1 6 0]
  | .bit_6_C => [0xCB#8, opXYZ 1 6 1]
  | .bit_6_D => [0xCB#8, opXYZ 1 6 2]
  | .bit_6_E => [0xCB#8, opXYZ 1 6 3]
  | .bit_6_H => [0xCB#8, opXYZ 1 6 4]
  | .bit_6_L => [0xCB#8, opXYZ 1 6 5]
  | .bit_6_atHL => [0xCB#8, opXYZ 1 6 6]
  | .bit_6_A => [0xCB#8, opXYZ 1 6 7]
  | .bit_7_B => [0xCB#8, opXYZ 1 7 0]
  | .bit_7_C => [0xCB#8, opXYZ 1 7 1]
  | .bit_7_D => [0xCB#8, opXYZ 1 7 2]
  | .bit_7_E => [0xCB#8, opXYZ 1 7 3]
  | .bit_7_H => [0xCB#8, opXYZ 1 7 4]
  | .bit_7_L => [0xCB#8, opXYZ 1 7 5]
  | .bit_7_atHL => [0xCB#8, opXYZ 1 7 6]
  | .bit_7_A => [0xCB#8, opXYZ 1 7 7]
  | .res_0_B => [0xCB#8, opXYZ 2 0 0]
  | .res_0_C => [0xCB#8, opXYZ 2 0 1]
  | .res_0_D => [0xCB#8, opXYZ 2 0 2]
  | .res_0_E => [0xCB#8, opXYZ 2 0 3]
  | .res_0_H => [0xCB#8, opXYZ 2 0 4]
  | .res_0_L => [0xCB#8, opXYZ 2 0 5]
  | .res_0_atHL => [0xCB#8, opXYZ 2 0 6]
  | .res_0_A => [0xCB#8, opXYZ 2 0 7]
  | .res_1_B => [0xCB#8, opXYZ 2 1 0]
  | .res_1_C => [0xCB#8, opXYZ 2 1 1]
  | .res_1_D => [0xCB#8, opXYZ 2 1 2]
  | .res_1_E => [0xCB#8, opXYZ 2 1 3]
  | .res_1_H => [0xCB#8, opXYZ 2 1 4]
  | .res_1_L => [0xCB#8, opXYZ 2 1 5]
  | .res_1_atHL => [0xCB#8, opXYZ 2 1 6]
  | .res_1_A => [0xCB#8, opXYZ 2 1 7]
  | .res_2_B => [0xCB#8, opXYZ 2 2 0]
  | .res_2_C => [0xCB#8, opXYZ 2 2 1]
  | .res_2_D => [0xCB#8, opXYZ 2 2 2]
  | .res_2_E => [0xCB#8, opXYZ 2 2 3]
  | .res_2_H => [0xCB#8, opXYZ 2 2 4]
  | .res_2_L => [0xCB#8, opXYZ 2 2 5]
  | .res_2_atHL => [0xCB#8, opXYZ 2 2 6]
  | .res_2_A => [0xCB#8, opXYZ 2 2 7]
  | .res_3_B => [0xCB#8, opXYZ 2 3 0]
  | .res_3_C => [0xCB#8, opXYZ 2 3 1]
  | .res_3_D => [0xCB#8, opXYZ 2 3 2]
  | .res_3_E => [0xCB#8, opXYZ 2 3 3]
  | .res_3_H => [0xCB#8, opXYZ 2 3 4]
  | .res_3_L => [0xCB#8, opXYZ 2 3 5]
  | .res_3_atHL => [0xCB#8, opXYZ 2 3 6]
  | .res_3_A => [0xCB#8, opXYZ 2 3 7]
  | .res_4_B => [0xCB#8, opXYZ 2 4 0]
  | .res_4_C => [0xCB#8, opXYZ 2 4 1]
  | .res_4_D => [0xCB#8, opXYZ 2 4 2]
  | .res_4_E => [0xCB#8, opXYZ 2 4 3]
  | .res_4_H => [0xCB#8, opXYZ 2 4 4]
  | .res_4_L => [0xCB#8, opXYZ 2 4 5]
  | .res_4_atHL => [0xCB#8, opXYZ 2 4 6]
  | .res_4_A => [0xCB#8, opXYZ 2 4 7]
  | .res_5_B => [0xCB#8, opXYZ 2 5 0]
  | .res_5_C => [0xCB#8, opXYZ 2 5 1]
  | .res_5_D => [0xCB#8, opXYZ 2 5 2]
  | .res_5_E => [0xCB#8, opXYZ 2 5 3]
  | .res_5_H => [0xCB#8, opXYZ 2 5 4]
  | .res_5_L => [0xCB#8, opXYZ 2 5 5]
  | .res_5_atHL => [0xCB#8, opXYZ 2 5 6]
  | .res_5_A => [0xCB#8, opXYZ 2 5 7]
  | .res_6_B => [0xCB#8, opXYZ 2 6 0]
  | .res_6_C => [0xCB#8, opXYZ 2 6 1]
  | .res_6_D => [0xCB#8, opXYZ 2 6 2]
  | .res_6_E => [0xCB#8, opXYZ 2 6 3]
  | .res_6_H => [0xCB#8, opXYZ 2 6 4]
  | .res_6_L => [0xCB#8, opXYZ 2 6 5]
  | .res_6_atHL => [0xCB#8, opXYZ 2 6 6]
  | .res_6_A => [0xCB#8, opXYZ 2 6 7]
  | .res_7_B => [0xCB#8, opXYZ 2 7 0]
  | .res_7_C => [0xCB#8, opXYZ 2 7 1]
  | .res_7_D => [0xCB#8, opXYZ 2 7 2]
  | .res_7_E => [0xCB#8, opXYZ 2 7 3]
  | .res_7_H => [0xCB#8, opXYZ 2 7 4]
  | .res_7_L => [0xCB#8, opXYZ 2 7 5]
  | .res_7_atHL => [0xCB#8, opXYZ 2 7 6]
  | .res_7_A => [0xCB#8, opXYZ 2 7 7]
  | .set_0_B => [0xCB#8, opXYZ 3 0 0]
  | .set_0_C => [0xCB#8, opXYZ 3 0 1]
  | .set_0_D => [0xCB#8, opXYZ 3 0 2]
  | .set_0_E => [0xCB#8, opXYZ 3 0 3]
  | .set_0_H => [0xCB#8, opXYZ 3 0 4]
  | .set_0_L => [0xCB#8, opXYZ 3 0 5]
  | .set_0_atHL => [0xCB#8, opXYZ 3 0 6]
  | .set_0_A => [0xCB#8, opXYZ 3 0 7]
  | .set_1_B => [0xCB#8, opXYZ 3 1 0]
  | .set_1_C => [0xCB#8, opXYZ 3 1 1]
  | .set_1_D => [0xCB#8, opXYZ 3 1 2]
  | .set_1_E => [0xCB#8, opXYZ 3 1 3]
  | .set_1_H => [0xCB#8, opXYZ 3 1 4]
  | .set_1_L => [0xCB#8, opXYZ 3 1 5]
  | .set_1_atHL => [0xCB#8, opXYZ 3 1 6]
  | .set_1_A => [0xCB#8, opXYZ 3 1 7]
  | .set_2_B => [0xCB#8, opXYZ 3 2 0]
  | .set_2_C => [0xCB#8, opXYZ 3 2 1]
  | .set_2_D => [0xCB#8, opXYZ 3 2 2]
  | .set_2_E => [0xCB#8, opXYZ 3 2 3]
  | .set_2_H => [0xCB#8, opXYZ 3 2 4]
  | .set_2_L => [0xCB#8, opXYZ 3 2 5]
  | .set_2_atHL => [0xCB#8, opXYZ 3 2 6]
  | .set_2_A => [0xCB#8, opXYZ 3 2 7]
  | .set_3_B => [0xCB#8, opXYZ 3 3 0]
  | .set_3_C => [0xCB#8, opXYZ 3 3 1]
  | .set_3_D => [0xCB#8, opXYZ 3 3 2]
  | .set_3_E => [0xCB#8, opXYZ 3 3 3]
  | .set_3_H => [0xCB#8, opXYZ 3 3 4]
  | .set_3_L => [0xCB#8, opXYZ 3 3 5]
  | .set_3_atHL => [0xCB#8, opXYZ 3 3 6]
  | .set_3_A => [0xCB#8, opXYZ 3 3 7]
  | .set_4_B => [0xCB#8, opXYZ 3 4 0]
  | .set_4_C => [0xCB#8, opXYZ 3 4 1]
  | .set_4_D => [0xCB#8, opXYZ 3 4 2]
  | .set_4_E => [0xCB#8, opXYZ 3 4 3]
  | .set_4_H => [0xCB#8, opXYZ 3 4 4]
  | .set_4_L => [0xCB#8, opXYZ 3 4 5]
  | .set_4_atHL => [0xCB#8, opXYZ 3 4 6]
  | .set_4_A => [0xCB#8, opXYZ 3 4 7]
  | .set_5_B => [0xCB#8, opXYZ 3 5 0]
  | .set_5_C => [0xCB#8, opXYZ 3 5 1]
  | .set_5_D => [0xCB#8, opXYZ 3 5 2]
  | .set_5_E => [0xCB#8, opXYZ 3 5 3]
  | .set_5_H => [0xCB#8, opXYZ 3 5 4]
  | .set_5_L => [0xCB#8, opXYZ 3 5 5]
  | .set_5_atHL => [0xCB#8, opXYZ 3 5 6]
  | .set_5_A => [0xCB#8, opXYZ 3 5 7]
  | .set_6_B => [0xCB#8, opXYZ 3 6 0]
  | .set_6_C => [0xCB#8, opXYZ 3 6 1]
  | .set_6_D => [0xCB#8, opXYZ 3 6 2]
  | .set_6_E => [0xCB#8, opXYZ 3 6 3]
  | .set_6_H => [0xCB#8, opXYZ 3 6 4]
  | .set_6_L => [0xCB#8, opXYZ 3 6 5]
  | .set_6_atHL => [0xCB#8, opXYZ 3 6 6]
  | .set_6_A => [0xCB#8, opXYZ 3 6 7]
  | .set_7_B => [0xCB#8, opXYZ 3 7 0]
  | .set_7_C => [0xCB#8, opXYZ 3 7 1]
  | .set_7_D => [0xCB#8, opXYZ 3 7 2]
  | .set_7_E => [0xCB#8, opXYZ 3 7 3]
  | .set_7_H => [0xCB#8, opXYZ 3 7 4]
  | .set_7_L => [0xCB#8, opXYZ 3 7 5]
  | .set_7_atHL => [0xCB#8, opXYZ 3 7 6]
  | .set_7_A => [0xCB#8, opXYZ 3 7 7]

/-! ### Words numbered as the opcode table numbers them -/

/-- The three bytes an instruction word of `nbits` bits stands for, first byte first, every bit above `nbits` zero.
Bit 0 is the least significant bit of the first byte and the next byte's bits count on from it, but for the one kind of
16-bit row the table has: a CB-page row is numbered there with its prefix 0xCB in bits 15..8, so a 16-bit word with 0xCB
in those bits is read as the prefix followed by bits 7..0. DESIGN CHOICE (log entry 2), safe: no step uses it. -/
def tableBytes (nbits w : Nat) : Byte × Byte × Byte :=
  let v := w % 2 ^ nbits
  if nbits = 16 ∧ v / 256 = 0xCB then (0xCB#8, BitVec.ofNat 8 v, 0#8)
  else (BitVec.ofNat 8 v, BitVec.ofNat 8 (v / 256), BitVec.ofNat 8 (v / 65536))

/-- The instruction the decoder of the default configuration reads from a word of the opcode table. -/
def decodeTableWord (nbits w : Nat) : Option Instr :=
  let (b0, b1, b2) := tableBytes nbits w
  (decode Config.default [b0, b1, b2]).toOption.map Prod.fst

end Sys2Proof
end

