-- ==== Sys2Proof/Machine/Fetch.lean ====
section
/-! DEFINITION. Fetching and decoding the instruction at `PC` (30_encoding.md R82, R83, R85), and placing an instruction
where the next step fetches it. -/

namespace Sys2Proof.Machine

/-- The bytes at `PC`, `PC + 1` and `PC + 2`, modulo 2^16 (R29, R82): as many as the longest instruction has. A read has
no effect (R56, R67), so the ones a shorter instruction does not use change nothing. -/
def State.streamBytes (s : State) : List Byte :=
  [s.memRead s.pc, s.memRead (s.pc + 1), s.memRead (s.pc + 2)]

/-- The instruction the step of R85 runs: the decoder of R86 on the stream at `PC` under the core's configuration. -/
def State.fetchInstr (s : State) : Instr :=
  decodeBytes s.config (s.memRead s.pc) (s.memRead (s.pc + 1)) (s.memRead (s.pc + 2))

/-- `s` Running, its ROM handed off, with three bytes stored at `PC`, `PC + 1` and `PC + 2`, in ROM too: what the loader's
ROM hand-off (R55) does for a program's bytes (log entry 3). -/
def State.placeAtPc (b0 b1 b2 : Byte) (s : State) : State :=
  { s with
    mode := .running
    romPhase := .handedOff
    mem := ((s.mem.write s.pc.toNat b0).write (s.pc + 1).toNat b1).write (s.pc + 2).toNat b2 }

/-- `s` with the opcode-table word `w` of `nbits` bits placed at `PC` (log entries 2 and 3). -/
def State.placeWord (nbits w : Nat) (s : State) : State :=
  let (b0, b1, b2) := tableBytes nbits w
  s.placeAtPc b0 b1 b2

end Sys2Proof.Machine
end

