-- ==== Sys2Proof/Machine/Step.lean ====
section
/-! DEFINITION. One step of the fetch-decode-execute sequencer, `RunOne()` (30_encoding.md R85, R88). -/

namespace Sys2Proof.Machine

/-- `RunOne()`: in `Running`, the instruction at `PC` is run to completion and the delayed `EI` of the one before it is
committed (R85); in `Halted` and `Faulted` there is no step and no state changes (R88). No instruction runs before the ROM
hand-off or after a refused one (70_reset_and_hazards.md R332, R333; log entry 4). -/
def step (s : State) : Host.Outcome State Fault Refusal :=
  match s.mode with
  | .running =>
    match s.romPhase with
    | .handedOff =>
      match exec s.fetchInstr s with
      | .next t => .next (t.commitDelayedEi s.imePending)
      | .fault r => .fault r
      | .refused r => .refused r
    | .awaiting => .refused .noRomImage
    | .refused => .refused .noRomImage
  | .halted => .next s
  | .faulted => .next s

/-- `s` with an instruction word of the opcode table stored where `step` fetches its next instruction, so that the very
next step runs it (log entries 2 and 3). -/
def State.withFetchWord (s : State) (nbits w : Nat) : State := s.placeWord nbits w

end Sys2Proof.Machine
end

