-- ==== Sys2Proof/Machine/HostOps.lean ====
section
/-! DEFINITION. What the host may do to a core (70_reset_and_hazards.md R332–R338): the ROM hand-off, the bounded `Run()`
and the read-only inspection. Construction is `State.construct`, `RunOne()` is `step`. -/

namespace Sys2Proof.Machine

/-- Why a ROM hand-off fails. -/
inductive HandOffRefusal where
  /-- The image is longer than the ROM region (R55, R333). Safe: no step may run afterwards. -/
  | imageTooLong (length : Nat)
  /-- The hand-off has happened, accepted or refused: it happens exactly once (R332, R333). Safe: nothing changes. -/
  | notTheFirst
deriving DecidableEq, Repr

/-- What a ROM hand-off leaves: the core after it, and the reason if it was refused. -/
structure HandOff where
  state   : State
  refusal : Option HandOffRefusal
deriving DecidableEq, Repr

/-- Memory with the image in the ROM region (R55): `ROM[i] = img[i]` below the image's length and 0x00 from there to
`ROM_END`. The core parses no header (R333). -/
def Memory.loadRom (romEnd : Nat) (img : List Byte) (m : Memory) : Memory :=
  Memory.load (m.filter (fun cell => decide (romEnd < cell.1))) 0 img

/-- The ROM hand-off (R55, R332, R333): taken once, by a core that still awaits it, so before any instruction executes. An
image longer than the region is refused and no step may run afterwards; a second hand-off is refused and changes nothing
(log entry 4). -/
def State.handOff (img : List Byte) (s : State) : HandOff :=
  match s.romPhase with
  | .awaiting =>
    if img.length ≤ s.config.romEnd.val + 1 then
      { state := { s with mem := s.mem.loadRom s.config.romEnd.val img, romPhase := .handedOff }, refusal := none }
    else { state := { s with romPhase := .refused }, refusal := some (.imageTooLong img.length) }
  | .handedOff => { state := s, refusal := some .notTheFirst }
  | .refused => { state := s, refusal := some .notTheFirst }

/-- A new core with its ROM image, as the host makes one before the first step (R332, R339, R340): construction under the
configuration, then the hand-off. -/
def start (cfg : Config) (img : List Byte) : HandOff := (State.construct cfg).handOff img

/-- `Run()` under the host's own bound of steps (R89, R338): steps while the mode is Running, each as `step` allows it, so
only after the hand-off (R332). The bound is no state of the
core and changes nothing the core computes. -/
def run : Nat → State → Host.Outcome State Fault Refusal
  | 0, s => .next s
  | bound + 1, s =>
    match s.mode with
    | .running =>
      match step s with
      | .next t => run bound t
      | .fault r => .fault r
      | .refused r => .refused r
    | .halted => .next s
    | .faulted => .next s

/-- The 8-bit register names of the inspection interface (R20, R317). -/
inductive RegName8 where
  | a | b | c | d | e | f | h | l
deriving DecidableEq, Repr

/-- The 16-bit register names of the inspection interface (R12, R22, R317). -/
inductive RegName16 where
  | af | bc | de | hl | sp | pc
deriving DecidableEq, Repr

/-- Inspecting an 8-bit register (R317, R334): `F` reads with a zero low nibble. -/
def State.inspect8 (s : State) : RegName8 → Byte
  | .a => s.a
  | .b => s.b
  | .c => s.c
  | .d => s.d
  | .e => s.e
  | .f => s.readF
  | .h => s.h
  | .l => s.l

/-- Inspecting a 16-bit register (R317, R334). -/
def State.inspect16 (s : State) : RegName16 → Word
  | .af => s.getPair .af
  | .bc => s.getPair .bc
  | .de => s.getPair .de
  | .hl => s.getPair .hl
  | .sp => s.sp
  | .pc => s.pc

/-- Inspecting a flag (R317). -/
def State.inspectFlag (s : State) (fl : Flag) : Bool := s.getFlag fl

end Sys2Proof.Machine
end

