-- ==== Sys2Proof/Safety.lean ====
section
/-! DEFINITION. How a run ends, the invariants of the machine, and the words in which statements say what an instruction
leaves unchanged. -/

namespace Sys2Proof.Machine

/-! ### The end of a run (70_reset_and_hazards.md R339) -/

/-- A run that has ended successfully: `Halted` with no fault. -/
abbrev State.runCompleted (s : State) : Prop := s.mode = .halted ∧ s.fault = none

/-- A run that has ended in a fault. -/
abbrev State.runFaulted (s : State) : Prop := s.mode = .faulted

/-! ### Invariants -/

/-- `HALT_CAUSE` is set exactly in `Halted` (R33) and `FAULT` exactly in `Faulted` (R34). -/
abbrev State.ModeConsistent (s : State) : Prop :=
  (s.mode = .halted ↔ s.haltCause ≠ .none) ∧ (s.mode = .faulted ↔ s.fault.isSome = true)

/-- The stored low nibble of `F` is zero (R26). -/
abbrev State.FlagsConsistent (s : State) : Prop := s.f &&& 0x0F#8 = 0#8

/-- The memory is in its canonical form. -/
abbrev State.MemoryCanonical (s : State) : Prop := s.mem.wf = true

/-- While no ROM image has been accepted the core is as construction left it: no instruction has executed (R333). -/
abbrev State.LoaderConsistent (s : State) : Prop :=
  s.romPhase ≠ .handedOff → s = { State.construct s.config with romPhase := s.romPhase }

/-- The invariant of the machine. -/
abbrev State.Inv (s : State) : Prop :=
  s.ModeConsistent ∧ s.FlagsConsistent ∧ s.MemoryCanonical ∧ s.LoaderConsistent

/-! ### What is left unchanged -/

/-- Every register an operand code names but those listed reads in `t` as in `s`. -/
def SameRegsBut (s t : State) (regs : List Reg) : Prop := ∀ r, r ∉ regs → t.getReg r = s.getReg r

/-- Every flag but those listed reads in `t` as in `s`. -/
def SameFlagsBut (s t : State) (flags : List Flag) : Prop := ∀ fl, fl ∉ flags → t.getFlag fl = s.getFlag fl

/-- Every byte of memory but those at the addresses listed reads in `t` as in `s`. -/
def SameMemoryBut (s t : State) (addrs : List Word) : Prop := ∀ x, x ∉ addrs → t.memRead x = s.memRead x

/-- The sequencer's mode, its halt cause, its fault record, the ROM phase and the configuration are in `t` what they are in
`s`. -/
def SameMode (s t : State) : Prop :=
  t.mode = s.mode ∧ t.haltCause = s.haltCause ∧ t.fault = s.fault ∧ t.romPhase = s.romPhase ∧ t.config = s.config

/-- `IME` and `IME_PENDING` are in `t` what they are in `s`. -/
def SameEnable (s t : State) : Prop := t.ime = s.ime ∧ t.imePending = s.imePending

/-- From `s` to `t` nothing changes but `PC`, `SP`, the registers, flags and bytes of memory listed. -/
def OnlyChanges (s t : State) (regs : List Reg) (flags : List Flag) (addrs : List Word) : Prop :=
  SameRegsBut s t regs ∧ SameFlagsBut s t flags ∧ SameMemoryBut s t addrs ∧ SameMode s t ∧ SameEnable s t

/-- An address of the ROM region (R51). -/
def InRom (s : State) (x : Word) : Prop := x.toNat ≤ s.config.romEnd.val

/-- After a store of `v` at `x` from `s`, the byte at `x` reads in `t` as `v`, or as before where `x` lies in ROM (R57). -/
def Stored (s t : State) (x : Word) (v : Byte) : Prop :=
  (InRom s x → t.memRead x = s.memRead x) ∧ (¬ InRom s x → t.memRead x = v)

/-- `HL` as the address of the `(HL)` operand (R22, R94). -/
def hl (s : State) : Word := joinBytes s.h s.l

/-- The registers a write of an 8-bit operand changes. -/
def Operand8.regs : Operand8 → List Reg
  | .reg r => [r]
  | .atHL => []

/-- The address a write of an 8-bit operand stores to. -/
def Operand8.addrs (s : State) : Operand8 → List Word
  | .reg _ => []
  | .atHL => [hl s]

/-- The value an 8-bit operand has in `s` (R90, R94). -/
def Operand8.value (s : State) : Operand8 → Byte
  | .reg r => s.getReg r
  | .atHL => s.memRead (hl s)

/-- In `t` the operand holds the value `v` written to it from `s`: the register, or the byte at the `HL` of `s` (R94). -/
def Operand8.Wrote (s t : State) (v : Byte) : Operand8 → Prop
  | .reg r => t.getReg r = v
  | .atHL => Stored s t (hl s) v

/-- The two halves of a 16-bit register (R22): `SP` has none. -/
def Reg16.regs : Reg16 → List Reg
  | .bc => [.b, .c]
  | .de => [.d, .e]
  | .hl => [.h, .l]
  | .sp => []

/-- The registers of a pair (R22), `F` apart. -/
def Pair.regs : Pair → List Reg
  | .bc => [.b, .c]
  | .de => [.d, .e]
  | .hl => [.h, .l]
  | .af => [.a]

/-- The flags a write of a pair changes: all of them for `AF` (R147), else none. -/
def Pair.flags : Pair → List Flag
  | .bc => []
  | .de => []
  | .hl => []
  | .af => [.z, .n, .h, .c]

end Sys2Proof.Machine
end

