-- ==== Sys2Proof/Certificates/Slice0/Obligations.lean ====
section
/-! DEFINITION. The statements for the provers, from the numbered rules of the spec. Each docstring says what the statement
claims and which rules of spec/ it rests on; a statement about an instruction gives its encoding, that it completes, its
result, and its frame. -/

/-! ### The spec's outcomes, in the spec's arithmetic -/

namespace Sys2Proof.Machine

/-- `A` is loaded with the byte at `x` by an instruction of `len` bytes, and nothing else changes. -/
def LoadsA (s t : State) (len : Nat) (x : Word) : Prop :=
  t.a = s.memRead x ∧ t.pc = s.pc + BitVec.ofNat 16 len ∧ t.sp = s.sp ∧ OnlyChanges s t [.a] [] []

/-- `A` is stored at `x` by an instruction of `len` bytes, and nothing else changes. -/
def StoresA (s t : State) (len : Nat) (x : Word) : Prop :=
  Stored s t x s.a ∧ t.pc = s.pc + BitVec.ofNat 16 len ∧ t.sp = s.sp ∧ OnlyChanges s t [] [] [x]

/-- The word `v` is stored at `x`, low byte first (R59). -/
def StoredWord (s t : State) (x v : Word) : Prop :=
  Stored s t x (loByte v) ∧ Stored s t (x + 1) (hiByte v)

/-- The word at `x` (R58). -/
def wordAt (s : State) (x : Word) : Word := joinBytes (s.memRead (x + 1)) (s.memRead x)

/-- The flag outcome of R193 from `s` to `t` for displacement `e`, under the configured `SP_OFFSET_FLAGS`. -/
def SpOffsetOutcome (s t : State) (e : Byte) : Prop :=
  t.getFlag .n = false ∧
  (s.config.spOffsetFlags = .doc16Bit →
    t.getFlag .z = s.getFlag .z ∧
    (t.getFlag .h = true ↔ 0x0FFF < s.sp.toNat % 0x1000 + (sext16 e).toNat % 0x1000) ∧
    (t.getFlag .c = true ↔ 0xFFFF < s.sp.toNat + (sext16 e).toNat)) ∧
  (s.config.spOffsetFlags = .lr35902Bits8 →
    t.getFlag .z = false ∧
    (t.getFlag .h = true ↔ 0x0F < s.sp.toNat % 0x10 + e.toNat % 0x10) ∧
    (t.getFlag .c = true ↔ 0xFF < s.sp.toNat % 0x100 + e.toNat))

/-- The outcome of `ADD` and `ADC` (R160) for operand `v` and carry-in `cin`: `A`, four flags, nothing else. -/
def AddOutcome (s t : State) (v : Byte) (cin : Nat) : Prop :=
  t.a.toNat = (s.a.toNat + v.toNat + cin) % 256 ∧
  (t.getFlag .z = true ↔ (s.a.toNat + v.toNat + cin) % 256 = 0) ∧ t.getFlag .n = false ∧
  (t.getFlag .h = true ↔ 0xF < s.a.toNat % 16 + v.toNat % 16 + cin) ∧
  (t.getFlag .c = true ↔ 0xFF < s.a.toNat + v.toNat + cin) ∧
  t.sp = s.sp ∧ OnlyChanges s t [.a] [.z, .n, .h, .c] []

/-- The flags of the subtract family (R161) for operand `v` and borrow-in `cin`. -/
def SubFlags (s t : State) (v : Byte) (cin : Nat) : Prop :=
  (t.getFlag .z = true ↔ ((s.a.toNat : Int) - v.toNat - cin) % 256 = 0) ∧ t.getFlag .n = true ∧
  (t.getFlag .h = true ↔ s.a.toNat % 16 < v.toNat % 16 + cin) ∧
  (t.getFlag .c = true ↔ s.a.toNat < v.toNat + cin)

/-- The outcome of `SUB` and `SBC` (R161): `A`, four flags, nothing else. -/
def SubOutcome (s t : State) (v : Byte) (cin : Nat) : Prop :=
  (t.a.toNat : Int) = ((s.a.toNat : Int) - v.toNat - cin) % 256 ∧ SubFlags s t v cin ∧
  t.sp = s.sp ∧ OnlyChanges s t [.a] [.z, .n, .h, .c] []

/-- The outcome of `CP` (R170): the flags of `SUB`, and nothing else. -/
def CpOutcome (s t : State) (v : Byte) : Prop :=
  SubFlags s t v 0 ∧ t.sp = s.sp ∧ OnlyChanges s t [] [.z, .n, .h, .c] []

/-- The outcome of `AND`, `XOR` and `OR` (R167–R169): `A` becomes `res`, Z tells whether it is 0, N and C are 0, H is as
given, and nothing else changes. -/
def LogicOutcome (s t : State) (res : Byte) (h : Bool) : Prop :=
  t.a = res ∧ (t.getFlag .z = true ↔ res = 0#8) ∧ t.getFlag .n = false ∧ t.getFlag .h = h ∧ t.getFlag .c = false ∧
  t.sp = s.sp ∧ OnlyChanges s t [.a] [.z, .n, .h, .c] []

/-- The byte a rotate, shift or swap of the CB page makes of `v` with carry-in `cin`, as a number (R225–R232). -/
def shiftResult (op : ShiftOp) (v cin : Nat) : Nat :=
  match op with
  | .rlc => (2 * v + v / 128) % 256
  | .rrc => v / 2 + 128 * (v % 2)
  | .rl => (2 * v + cin) % 256
  | .rr => v / 2 + 128 * cin
  | .sla => 2 * v % 256
  | .sra => v / 2 + 128 * (v / 128)
  | .swap => 16 * (v % 16) + v / 16
  | .srl => v / 2

/-- The carry-out of a rotate, shift or swap of `v`: the bit shifted out, 0 for `SWAP` (R225–R232). -/
def shiftCarry (op : ShiftOp) (v : Nat) : Nat :=
  match op with
  | .rlc => v / 128
  | .rrc => v % 2
  | .rl => v / 128
  | .rr => v % 2
  | .sla => v / 128
  | .sra => v % 2
  | .swap => 0
  | .srl => v % 2

/-- `cond(cc)` of R93. -/
def CondHolds (s : State) : Cond → Prop
  | .nz => s.getFlag .z = false
  | .z => s.getFlag .z = true
  | .nc => s.getFlag .c = false
  | .c => s.getFlag .c = true

/-- The address after `len` bytes of the instruction plus the signed displacement `e` (R251), modulo 2^16. -/
def relativeTarget (s : State) (len : Nat) (e : Byte) : Word := BitVec.ofInt 16 (s.pc.toNat + len + e.toInt)

/-- A call from `s` to `target` by an instruction of `len` bytes (R260, R264): the address after it is pushed. -/
def Called (s t : State) (len : Nat) (target : Word) : Prop :=
  StoredWord s t (s.sp - 2) (s.pc + BitVec.ofNat 16 len) ∧ t.sp = s.sp - 2 ∧ t.pc = target ∧
  OnlyChanges s t [] [] [s.sp - 2, s.sp - 1]

/-- Nothing changes but `PC`, which is after the `len` bytes of the instruction. -/
def OnlyAdvanced (s t : State) (len : Nat) : Prop :=
  t.pc = s.pc + BitVec.ofNat 16 len ∧ t.sp = s.sp ∧ OnlyChanges s t [] [] []

/-- Pushing a list of words, the first one first. -/
def pushAll : List Word → State → State
  | [], s => s
  | v :: vs, s => pushAll vs (s.push16 v)

/-- Popping `n` words: the words in the order popped, and the state after. -/
def popAll : Nat → State → List Word × State
  | 0, s => ([], s)
  | n + 1, s => (s.popValue :: (popAll n s.popDone).1, (popAll n s.popDone).2)

/-- The two-digit BCD byte of a number below 100. -/
def bcd (x : Nat) : Byte := BitVec.ofNat 8 (16 * (x / 10) + x % 10)

/-- The control-transfer instructions (files 47 and 48): those that write `PC` beyond the fetch. -/
def IsTransfer (i : Instr) : Prop :=
  (∃ nn, i = .jp_nn nn) ∨ (∃ e, i = .jr_e e) ∨ (∃ cc nn, i = Instr.jpIf cc nn) ∨ (∃ cc e, i = Instr.jrIf cc e) ∨
  i = .jp_HL ∨ (∃ nn, i = .call_nn nn) ∨ (∃ cc nn, i = Instr.callIf cc nn) ∨ i = .ret ∨ (∃ cc, i = Instr.retIf cc) ∨
  (∃ y, i = Instr.rst y) ∨ i = .reti

/-- The instructions that write `SP` (R30). -/
def WritesSp (i : Instr) : Prop :=
  (∃ p, i = Instr.push p) ∨ (∃ p, i = Instr.pop p) ∨ (∃ nn, i = .call_nn nn) ∨ (∃ cc nn, i = Instr.callIf cc nn) ∨
  i = .ret ∨ (∃ cc, i = Instr.retIf cc) ∨ i = .reti ∨ (∃ y, i = Instr.rst y) ∨ (∃ nn, i = Instr.ldReg16Imm .sp nn) ∨
  i = .ld_SP_HL ∨ (∃ e, i = .add_SP_e e) ∨ i = Instr.inc16 .sp ∨ i = Instr.dec16 .sp

/-- The instructions that write a flag (R28). -/
def WritesFlags (i : Instr) : Prop :=
  (∃ op o, i = Instr.alu op o) ∨ (∃ op n, i = Instr.aluImm op n) ∨ (∃ o, i = Instr.inc8 o) ∨ (∃ o, i = Instr.dec8 o) ∨
  (∃ r, i = Instr.addHl r) ∨ (∃ e, i = .add_SP_e e) ∨ (∃ e, i = .ld_HL_SPe e) ∨ i = .daa ∨ i = .cpl ∨ i = .scf ∨ i = .ccf ∨
  i = .rlca ∨ i = .rrca ∨ i = .rla ∨ i = .rra ∨ (∃ op o, i = Instr.shift op o) ∨ (∃ n o, i = Instr.bit n o) ∨
  i = Instr.pop .af

/-- The instructions that store to memory (files 40 to 48). -/
def StoresToMemory (i : Instr) : Prop :=
  (∃ r, i = Instr.ldMemReg r) ∨ (∃ n, i = .ld_atHL_n n) ∨ i = .ld_atBC_A ∨ i = .ld_atDE_A ∨ (∃ nn, i = .ld_atNN_A nn) ∨
  (∃ n, i = .ldh_atN_A n) ∨ i = .ld_atC_A ∨ i = .ld_atHLinc_A ∨ i = .ld_atHLdec_A ∨ (∃ nn, i = .ld_atNN_SP nn) ∨
  i = Instr.inc8 .atHL ∨ i = Instr.dec8 .atHL ∨ (∃ op, i = Instr.shift op .atHL) ∨ (∃ n, i = Instr.res n .atHL) ∨
  (∃ n, i = Instr.set n .atHL) ∨ (∃ p, i = Instr.push p) ∨ (∃ nn, i = .call_nn nn) ∨
  (∃ cc nn, i = Instr.callIf cc nn) ∨ (∃ y, i = Instr.rst y)

/-- A DecodeError waits at `PC` (R300): an unmapped byte, or 0xCB where the CB page is absent. -/
def DecodeErrorAtPc (s : State) : Prop :=
  s.memRead s.pc ∈ unmappedBytes ∨ (s.memRead s.pc = 0xCB#8 ∧ s.config.cbPage = .absent)

end Sys2Proof.Machine

open Sys2Proof Sys2Proof.Machine

/-! ### The obligations -/

/-- O1 (derived; 30_encoding.md R80, 30_encoding.md R86, 30_encoding.md R95, 30_encoding.md R96). For every configuration,
every instruction well formed in it and every list of bytes after it, decode of (encode i ++ rest) is i with rest left
over: no bit of an encoding is dropped, for all 502 instructions and every operand value. -/
def Obligations.DecodeOfEncodeIsTheInstruction : Prop :=
  ∀ (cfg : Config) (i : Instr) (rest : List Byte), i.wellFormed cfg = true →
    decode cfg (encode i ++ rest) = .ok (i, rest)

/-- O2 (derived; 30_encoding.md R80, 30_encoding.md R86, 30_encoding.md R99). For every configuration and every list of
bytes, if the decoder answers an instruction and the bytes left over, the instruction is well formed in that
configuration and its encoding followed by the bytes left over is the list given: every byte string has one reading. -/
def Obligations.EncodeOfDecodeIsTheBytes : Prop :=
  ∀ (cfg : Config) (bytes rest : List Byte) (i : Instr), decode cfg bytes = .ok (i, rest) →
    i.wellFormed cfg = true ∧ encode i ++ rest = bytes

/-- O3 (derived; 30_encoding.md R95, 30_encoding.md R96). One instruction word per family, written out from the spec's
encodings, decodes to the instruction it stands for under the default configuration. -/
def Obligations.SampleWordsDecodeAsTheSpecSays : Prop :=
  decode Config.default [0x78#8] = .ok (.ld_A_B, []) ∧
  decode Config.default [0x36#8, 0x7F#8] = .ok (.ld_atHL_n 0x7F#8, []) ∧
  decode Config.default [0xEA#8, 0x34#8, 0xC2#8] = .ok (.ld_atNN_A 0xC234#16, []) ∧
  decode Config.default [0x01#8, 0x34#8, 0x12#8] = .ok (.ld_BC_nn 0x1234#16, []) ∧
  decode Config.default [0xC6#8, 0x08#8] = .ok (.add_A_n 0x08#8, []) ∧
  decode Config.default [0x39#8] = .ok (.add_HL_SP, []) ∧
  decode Config.default [0x27#8] = .ok (.daa, []) ∧
  decode Config.default [0xCB#8, 0x3E#8] = .ok (.srl_atHL, []) ∧
  decode Config.default [0xCB#8, 0x7C#8] = .ok (.bit_7_H, []) ∧
  decode Config.default [0x20#8, 0xFC#8] = .ok (.jr_NZ_e 0xFC#8, []) ∧
  decode Config.default [0xCD#8, 0x10#8, 0x01#8] = .ok (.call_nn 0x0110#16, []) ∧
  decode Config.default [0xD3#8] = .ok (.unmapped 0xD3#8, [])

/-- O4 (stated; R99). With the CB page populated, for every mapped first byte and whatever bytes follow, the decoded
instruction is 3 bytes long for the listed 3-byte opcodes, 2 for the listed 2-byte opcodes, STOP_LENGTH for 0x10 and 1
for every other mapped byte; the decoder takes no other state. -/
def Obligations.LengthIsAFunctionOfTheFirstByte : Prop :=
  ∀ (cfg : Config) (b0 b1 b2 : Byte), cfg.cbPage = .populated → b0 ∉ unmappedBytes →
    (decodeBytes cfg b0 b1 b2).length =
      if b0 ∈ ([0x01, 0x08, 0x11, 0x21, 0x31, 0xC2, 0xC3, 0xC4, 0xCA, 0xCC, 0xCD, 0xD2, 0xD4, 0xDA, 0xDC, 0xEA, 0xFA] :
          List Byte) then 3
      else if b0 ∈ ([0x06, 0x0E, 0x16, 0x18, 0x1E, 0x20, 0x26, 0x28, 0x2E, 0x30, 0x36, 0x38, 0x3E, 0xC6, 0xCB, 0xCE, 0xD6,
          0xDE, 0xE0, 0xE6, 0xE8, 0xEE, 0xF0, 0xF6, 0xF8, 0xFE] : List Byte) then 2
      else if b0 = 0x10#8 then (match cfg.stopLength with | .one => 1 | .two => 2)
      else 1

/-- O5 (stated; R97). For every configuration and bytes, the decoder answers an unmapped term exactly when the first byte
is one of the eleven listed, and the term carries that byte; it answers the DecodeError of the prefix exactly when the
byte is 0xCB and the CB page is absent; and executing either takes the DecodeError. -/
def Obligations.UnmappedBytesAreExactlyEleven : Prop :=
  ∀ (cfg : Config) (b0 b1 b2 : Byte),
    ((∃ op, decodeBytes cfg b0 b1 b2 = .unmapped op) ↔
      b0 ∈ ([0xD3, 0xDB, 0xDD, 0xE3, 0xE4, 0xEB, 0xEC, 0xED, 0xF4, 0xFC, 0xFD] : List Byte)) ∧
    (∀ op, decodeBytes cfg b0 b1 b2 = .unmapped op → op = b0) ∧
    (decodeBytes cfg b0 b1 b2 = .prefixCB ↔ b0 = 0xCB#8 ∧ cfg.cbPage = .absent) ∧
    (∀ (i : Instr) (s : State), decodeBytes cfg b0 b1 b2 = i → (i = .unmapped b0 ∨ i = .prefixCB) →
      ∃ t, exec i s = .next t ∧ t.mode = .faulted)

/-- O6 (stated; R96). With the page populated, the second byte 8y+z with x = 0 is the rotate or shift y on r8(z), with x =
1, 2, 3 it is BIT, RES, SET of bit y on r8(z), and every second byte is one of these; with the page absent, 0xCB
decodes to the prefix's DecodeError whatever byte follows, and its length is the one byte. -/
def Obligations.CbPageMapsEveryByteByItsFields : Prop :=
  ∀ (cfg : Config) (b2 : Byte),
    (cfg.cbPage = .populated →
      (∀ (op : ShiftOp) (o : Operand8),
        decodeBytes cfg 0xCB#8 (BitVec.ofNat 8 (8 * op.code + o.code)) b2 = Instr.shift op o) ∧
      (∀ (n : Fin 8) (o : Operand8),
        decodeBytes cfg 0xCB#8 (BitVec.ofNat 8 (0x40 + 8 * n.val + o.code)) b2 = Instr.bit n o ∧
        decodeBytes cfg 0xCB#8 (BitVec.ofNat 8 (0x80 + 8 * n.val + o.code)) b2 = Instr.res n o ∧
        decodeBytes cfg 0xCB#8 (BitVec.ofNat 8 (0xC0 + 8 * n.val + o.code)) b2 = Instr.set n o) ∧
      (∀ b1 : Byte,
        (∃ (op : ShiftOp) (o : Operand8), b1 = BitVec.ofNat 8 (8 * op.code + o.code)) ∨
        (∃ (n : Fin 8) (o : Operand8), b1 = BitVec.ofNat 8 (0x40 + 8 * n.val + o.code) ∨
          b1 = BitVec.ofNat 8 (0x80 + 8 * n.val + o.code) ∨ b1 = BitVec.ofNat 8 (0xC0 + 8 * n.val + o.code)))) ∧
    (cfg.cbPage = .absent → ∀ b1 : Byte,
      decodeBytes cfg 0xCB#8 b1 b2 = .prefixCB ∧ (Instr.prefixCB).length = 1 ∧
      ∀ s : State, ∃ t, exec .prefixCB s = .next t ∧ t.mode = .faulted)

/-- O7 (derived; 30_encoding.md R85, 30_encoding.md R87). When the core is Running, its ROM handed off, and the bytes at
PC decode to i, exec of i at that same state answers a next state and step is that state (the meaning itself advances
PC past the instruction's bytes), followed by the end of Step() of R85: if IME_PENDING was 1 before and still is, and
no DecodeError was raised, IME becomes 1 and IME_PENDING 0. -/
def Obligations.StepRunsTheDecodedInstruction : Prop :=
  ∀ (s : State) (i : Instr) (rest : List Byte), s.mode = .running → s.romPhase = .handedOff →
    decode s.config [s.memRead s.pc, s.memRead (s.pc + 1), s.memRead (s.pc + 2)] = .ok (i, rest) →
    ∃ t, exec i s = .next t ∧
      step s = .next (if s.imePending = true ∧ t.imePending = true ∧ t.mode ≠ .faulted
        then { t with ime := true, imePending := false } else t)

/-- O8 (derived; 60_exceptions.md R302, 60_exceptions.md R303, 60_exceptions.md R304, 60_exceptions.md R305,
70_reset_and_hazards.md R332, 70_reset_and_hazards.md R333). Every instruction answers a next state from every state,
whatever its memory holds, and so does every step of a core whose ROM has been handed off, or that is not Running
(AddressError is never raised, nothing else faults, and a DecodeError is taken as a next state: log entry 7). Before
the hand-off, and after a refused one, a step of a Running core is refused by name (log entry 4). -/
def Obligations.EveryStepAnswersANextState : Prop :=
  (∀ (i : Instr) (s : State), ∃ t, exec i s = .next t) ∧
  (∀ s : State, (s.mode ≠ .running ∨ s.romPhase = .handedOff) → ∃ t, step s = .next t) ∧
  (∀ s : State, s.mode = .running → s.romPhase ≠ .handedOff → step s = .refused .noRomImage)

/-- O9 (stated; R88). When the mode is Halted or Faulted, step answers the same state. -/
def Obligations.HaltedAndFaultedHaveNoStep : Prop :=
  ∀ s : State, (s.mode = .halted ∨ s.mode = .faulted) → step s = .next s

/-- O10 (stated; R300). After the ROM hand-off, a Running step from a state with an unmapped byte at PC, or with 0xCB at
PC and the CB page absent, answers the state before the step with mode Faulted and FAULT recording the cause, the
address PC and the opcode byte; every register, flag, PC and memory byte keeps its value. From any other Running state
a step does not enter Faulted. -/
def Obligations.DecodeErrorIsTakenExactlyWhenTheByteIsUnmapped : Prop :=
  ∀ s : State, s.mode = .running → s.romPhase = .handedOff →
    (DecodeErrorAtPc s →
      step s = .next { s with
        mode := .faulted
        fault := some { cause := .decodeError, addr := s.pc, bytes := [s.memRead s.pc] } }) ∧
    (¬ DecodeErrorAtPc s → ∀ t, step s = .next t → t.mode ≠ .faulted ∧ t.fault = s.fault)

/-- O11 (derived; 60_exceptions.md R300, 30_encoding.md R85). exec of an unmapped term, and of the prefix term, answers
the same state with mode Faulted and FAULT naming the address PC and the byte, and nothing else changed. R300 gives
this for the eleven unmapped bytes and for 0xCB where the CB page is absent; that exec says it too of an unmapped term
with a mapped byte, and of the prefix where the page is populated, is the model's choice (log entry 6: the decoder
gives no such term). That taking the DecodeError is a next state is log entry 7. -/
def Obligations.UnmappedAndPrefixTakeDecodeError : Prop :=
  ∀ (op : Byte) (s : State),
    exec (.unmapped op) s = .next { s with
      mode := .faulted, fault := some { cause := .decodeError, addr := s.pc, bytes := [op] } } ∧
    exec .prefixCB s = .next { s with
      mode := .faulted, fault := some { cause := .decodeError, addr := s.pc, bytes := [0xCB#8] } }

/-- O12 (derived; 44_misc_control.md R203, 44_misc_control.md R204, 48_call_restart_return.md R266, 30_encoding.md R85).
When IME_PENDING is 1 and a Running step completes without a DecodeError, IME_PENDING is 0 after it, and IME is 1
unless the instruction run was DI, after which it is 0. When IME_PENDING is 0, IME_PENDING becomes 1 only by EI, and
IME changes only by DI (to 0) and RETI (to 1). -/
def Obligations.DelayedEiIsCommittedByTheNextInstruction : Prop :=
  ∀ s t : State, s.mode = .running → step s = .next t → t.mode ≠ .faulted →
    (s.imePending = true → t.imePending = false ∧ t.ime = !decide (s.fetchInstr = .di)) ∧
    (s.imePending = false →
      (t.imePending = true ↔ s.fetchInstr = .ei) ∧
      t.ime = (if s.fetchInstr = .di then false else if s.fetchInstr = .reti then true else s.ime))

/-- O13 (derived; 10_state.md R32, 60_exceptions.md R308, 70_reset_and_hazards.md R342). Two states that differ only in
IME and IME_PENDING step to states that differ at most in IME and IME_PENDING: no instruction of the core reads them,
so nothing a program computes depends on them. -/
def Obligations.ImeIsReadByNoInstruction : Prop :=
  ∀ (s t : State) (ime pending : Bool), step s = .next t →
    ∃ ime' pending', step { s with ime := ime, imePending := pending } =
      .next { t with ime := ime', imePending := pending' }

/-- O14 (stated; R60). For every state, every address of its ROM region, every instruction and every step, the byte at
that address reads after as before. -/
def Obligations.NoInstructionChangesRom : Prop :=
  ∀ (s : State) (x : Word), InRom s x →
    (∀ (i : Instr) (t : State), exec i s = .next t → t.memRead x = s.memRead x) ∧
    (∀ t : State, step s = .next t → t.memRead x = s.memRead x)

/-- O15 (derived; 10_state.md R26, 10_state.md R31, 10_state.md R33, 10_state.md R34, 70_reset_and_hazards.md R333). If a
state has its memory in canonical form, the stored low nibble of F zero, HALT_CAUSE set exactly in Halted and FAULT
set exactly in Faulted, and is as construction left it while no ROM image has been accepted, then every next state of
a step has all of them. -/
def Obligations.StepKeepsTheInvariant : Prop :=
  ∀ s t : State, s.Inv → step s = .next t → t.Inv

/-- O16 (derived; 70_reset_and_hazards.md R330, 10_state.md R38, 70_reset_and_hazards.md R332). Canonical memory, zero low
nibble of F, HALT_CAUSE and FAULT matching the mode, and nothing run before the hand-off hold of the state of
construction under every configuration; it awaits the ROM hand-off, and until then every byte of the ROM region reads
as 0x00, which is the model's choice (log entry 3). The reset state is construction under the default configuration,
which is the model's choice too (log entry 1). -/
def Obligations.ConstructionMeetsTheInvariant : Prop :=
  (∀ cfg : Config, (State.construct cfg).Inv ∧ (State.construct cfg).romPhase = .awaiting ∧
    (∀ x : Word, InRom (State.construct cfg) x → (State.construct cfg).memRead x = 0#8)) ∧
  State.reset.Inv ∧ State.reset = State.construct Config.default

/-- O17 (derived; 10_state.md R40, 10_state.md R31, 60_exceptions.md R301, 60_exceptions.md R311, 70_reset_and_hazards.md
R333). After any step the configuration and the state of the ROM hand-off are what they were; a FAULT record is never
cleared, and in Faulted it is the same record; Halted and Faulted are never left. -/
def Obligations.StepKeepsConfigurationAndFault : Prop :=
  ∀ s t : State, step s = .next t →
    t.config = s.config ∧ t.romPhase = s.romPhase ∧
    (s.fault.isSome = true → t.fault.isSome = true) ∧
    (s.mode = .faulted → t.mode = .faulted ∧ t.fault = s.fault) ∧
    (s.mode = .halted → t.mode = .halted ∧ t.haltCause = s.haltCause)

/-- O18 (derived; 10_state.md R31, 10_state.md R33, 44_misc_control.md R201, 44_misc_control.md R202). A Running step ends
in Halted exactly when the instruction run is HALT or STOP, and HALT_CAUSE then names which; otherwise HALT_CAUSE
keeps its value. -/
def Obligations.HaltedIsEnteredOnlyByHaltAndStop : Prop :=
  ∀ s t : State, s.mode = .running → step s = .next t →
    (t.mode = .halted ↔ (s.fetchInstr = .halt ∨ ∃ x, s.fetchInstr = .stop x)) ∧
    (s.fetchInstr = .halt → t.haltCause = .halt) ∧ (∀ x, s.fetchInstr = .stop x → t.haltCause = .stop) ∧
    (t.mode ≠ .halted → t.haltCause = s.haltCause)

/-- O19 (derived; 10_state.md R30, 10_state.md R41, 90_conflicts.md C6). Every instruction but PUSH, POP, CALL, RET, RETI,
RST, LD SP,nn, LD SP,HL, ADD SP,e, INC SP and DEC SP leaves SP as it is. -/
def Obligations.SpChangesOnlyByStackInstructions : Prop :=
  ∀ (i : Instr) (s t : State), ¬ WritesSp i → exec i s = .next t → t.sp = s.sp

/-- O20 (derived; 10_state.md R28). Every instruction but the 8-bit ALU operations, 8-bit INC and DEC, ADD HL,rr, ADD
SP,e, LD HL,SP+e, DAA, CPL, SCF, CCF, the rotates, shifts and SWAP, BIT and POP AF leaves all of F as it is: loads,
16-bit INC and DEC, jumps, calls, returns, restarts, NOP, HALT, STOP, DI, EI, RES and SET among them. -/
def Obligations.FlagsChangeOnlyByTheListedInstructions : Prop :=
  ∀ (i : Instr) (s t : State), ¬ WritesFlags i → exec i s = .next t → t.f = s.f

/-- O21 (derived; 20_memory.md R56, 20_memory.md R66, 20_memory.md R67). Every instruction but the stores, LD (nn),SP, the
read-modify-write forms on (HL), PUSH, CALL and RST leaves every byte of memory as it is. -/
def Obligations.MemoryChangesOnlyByStores : Prop :=
  ∀ (i : Instr) (s t : State), ¬ StoresToMemory i → exec i s = .next t → t.mem = s.mem

/-- O22 (derived; 10_state.md R29, 30_encoding.md R82, 30_encoding.md R83, 30_encoding.md R99). For every well-formed
instruction that is neither a jump, call, return or restart nor a DecodeError, PC after it is PC before it plus the
instruction's length, modulo 2^16. -/
def Obligations.PcAdvancesByTheInstructionLength : Prop :=
  ∀ (i : Instr) (s t : State), i.wellFormed s.config = true → ¬ IsTransfer i → (∀ op, i ≠ .unmapped op) → i ≠ .prefixCB →
    exec i s = .next t → t.pc = s.pc + BitVec.ofNat 16 i.length

/-- O23 (derived; 30_encoding.md R89, 70_reset_and_hazards.md R338). The host's bound changes nothing the core computes:
running at most m steps and then at most n more answers what running at most m + n does, and a run of at most one step
is one step. -/
def Obligations.BoundedRunsCompose : Prop :=
  (∀ (m n : Nat) (s t : State), run m s = .next t → run (m + n) s = run n t) ∧ (∀ s : State, run 1 s = step s)

/-- O24 (stated; R36, R37, R38, R330). At construction PC is 0x0100, SP 0xFFFE, the registers have the values of the
configured boot profile, the mode is Running, IME and IME_PENDING are 0, HALT_CAUSE is NONE, FAULT is empty and every
byte outside the ROM region is 0x00. -/
def Obligations.ConstructionSetsEveryPieceOfState : Prop :=
  (∀ cfg : Config,
    (State.construct cfg).pc = 0x0100#16 ∧ (State.construct cfg).sp = 0xFFFE#16 ∧
    (State.construct cfg).mode = .running ∧ (State.construct cfg).ime = false ∧
    (State.construct cfg).imePending = false ∧ (State.construct cfg).haltCause = .none ∧
    (State.construct cfg).fault = none ∧ (State.construct cfg).config = cfg ∧
    (∀ x : Word, ¬ InRom (State.construct cfg) x → (State.construct cfg).memRead x = 0#8) ∧
    (cfg.bootProfile = .dmgPostBoot →
      (State.construct cfg).a = 0x01#8 ∧ (State.construct cfg).f = 0xB0#8 ∧ (State.construct cfg).b = 0x00#8 ∧
      (State.construct cfg).c = 0x13#8 ∧ (State.construct cfg).d = 0x00#8 ∧ (State.construct cfg).e = 0xD8#8 ∧
      (State.construct cfg).h = 0x01#8 ∧ (State.construct cfg).l = 0x4D#8) ∧
    (cfg.bootProfile = .zero →
      (State.construct cfg).a = 0x00#8 ∧ (State.construct cfg).f = 0x00#8 ∧ (State.construct cfg).b = 0x00#8 ∧
      (State.construct cfg).c = 0x00#8 ∧ (State.construct cfg).d = 0x00#8 ∧ (State.construct cfg).e = 0x00#8 ∧
      (State.construct cfg).h = 0x00#8 ∧ (State.construct cfg).l = 0x00#8))

/-- O25 (derived; 20_memory.md R55, 70_reset_and_hazards.md R332, 70_reset_and_hazards.md R333). While the hand-off is
awaited: for an image no longer than the ROM region it answers the same state but for memory and the ROM phase; ROM[i]
is img[i] below the image's length and 0x00 from there to ROM_END, and every byte outside ROM is as before. A longer
image is refused, and a Running core then does not step. Once it has happened, a further hand-off is refused and
changes nothing. R55 and R333 give the hand-off once, after construction; that it answers so in every awaiting state,
and what a further one answers, is the model's choice (log entry 4). -/
def Obligations.RomHandOffFillsTheRomRegion : Prop :=
  ∀ (s : State) (img : List Byte),
    (s.romPhase = .awaiting → img.length ≤ s.config.romEnd.val + 1 →
      ∃ t, s.handOff img = { state := t, refusal := none } ∧ t = { s with mem := t.mem, romPhase := .handedOff } ∧
        (∀ x : Word, x.toNat < img.length → t.memRead x = img.getD x.toNat 0#8) ∧
        (∀ x : Word, img.length ≤ x.toNat → InRom s x → t.memRead x = 0#8) ∧
        (∀ x : Word, ¬ InRom s x → t.memRead x = s.memRead x)) ∧
    (s.romPhase = .awaiting → s.config.romEnd.val + 1 < img.length →
      ∃ t, s.handOff img = { state := t, refusal := some (.imageTooLong img.length) } ∧
        t = { s with romPhase := .refused } ∧ (s.mode = .running → step t = .refused .noRomImage)) ∧
    (s.romPhase ≠ .awaiting → s.handOff img = { state := s, refusal := some .notTheFirst })

/-- O26 (stated; R51). Every address resolves to exactly one region: ROM up to ROM_END, VRAM from ROM_END + 1 to 0x9FFF,
internal RAM from 0xA000 to 0xFEFF, high/I-O RAM from 0xFF00; ROM_END lies in 0x0000..0x9FFE and is 0x7FFF by default. -/
def Obligations.EveryAddressHasOneRegion : Prop :=
  (∀ (cfg : Config) (x : Word),
    (regionOf cfg x = .rom ↔ x.toNat ≤ cfg.romEnd.val) ∧
    (regionOf cfg x = .vram ↔ cfg.romEnd.val + 1 ≤ x.toNat ∧ x.toNat ≤ 0x9FFF) ∧
    (regionOf cfg x = .internalRam ↔ 0xA000 ≤ x.toNat ∧ x.toNat ≤ 0xFEFF) ∧
    (regionOf cfg x = .highRam ↔ 0xFF00 ≤ x.toNat) ∧
    cfg.romEnd.val ≤ 0x9FFE) ∧ Config.default.romEnd.val = 0x7FFF ∧
  (∀ (s : State) (x : Word) (v : Byte),
    (regionOf s.config x = .rom → s.memWrite x v = s) ∧
    (regionOf s.config x ≠ .rom → (s.memWrite x v).memRead x = v))

/-- O27 (stated; R57, R58, R59). A byte write to a writable region reads back and leaves every other byte; to ROM it
changes no state. A word read joins the byte at addr (low) and at addr + 1 modulo 2^16 (high); a word write stores the
low byte at addr and the high byte at addr + 1, each by its own region. -/
def Obligations.ByteAndWordAccess : Prop :=
  ∀ (s : State) (x : Word),
    (∀ v : Byte, Stored s (s.memWrite x v) x v ∧ SameMemoryBut s (s.memWrite x v) [x] ∧
      (InRom s x → s.memWrite x v = s) ∧ s.memWrite x v = { s with mem := (s.memWrite x v).mem }) ∧
    (s.memRead16 x).toNat = (s.memRead (x + 1)).toNat * 256 + (s.memRead x).toNat ∧
    (∀ v : Word, StoredWord s (s.memWrite16 x v) x v ∧ SameMemoryBut s (s.memWrite16 x v) [x, x + 1] ∧
      s.memWrite16 x v = { s with mem := (s.memWrite16 x v).mem })

/-- O28 (stated; R22, R23). Reading a pair is 256 times its first register plus its second; writing V sets the first
register to V[15:8] and the second to V[7:0] (for AF, F to V[7:0] and 0xF0) whatever they held, so the pair reads back
as V (AF as V and 0xFFF0) and no other register changes. -/
def Obligations.PairsAreViewsOfTheRegisters : Prop :=
  ∀ (s : State) (v : Word),
    ((s.getPair .bc).toNat = s.b.toNat * 256 + s.c.toNat ∧ (s.getPair .de).toNat = s.d.toNat * 256 + s.e.toNat ∧
      (s.getPair .hl).toNat = s.h.toNat * 256 + s.l.toNat ∧ (s.getPair .af).toNat = s.a.toNat * 256 + s.readF.toNat) ∧
    ((s.setPair .bc v).b = hiByte v ∧ (s.setPair .bc v).c = loByte v ∧
      (s.setPair .de v).d = hiByte v ∧ (s.setPair .de v).e = loByte v ∧
      (s.setPair .hl v).h = hiByte v ∧ (s.setPair .hl v).l = loByte v ∧
      (s.setPair .af v).a = hiByte v ∧ (s.setPair .af v).f = loByte v &&& 0xF0#8) ∧
    (∀ p : Pair, (s.setPair p v).getPair p = if p = .af then v &&& 0xFFF0#16 else v) ∧
    (∀ p : Pair, OnlyChanges s (s.setPair p v) p.regs p.flags [] ∧
      (s.setPair p v).sp = s.sp ∧ (s.setPair p v).pc = s.pc)

/-- O29 (stated; R25, R26). Z, N, H and C are bits 7, 6, 5 and 4 of F; every read of F has zero in bits 3..0, after any
write too; writing a flag makes that flag read as written and leaves the other three. -/
def Obligations.FlagsAreBitsOfFWithAZeroLowNibble : Prop :=
  ∀ s : State,
    (s.getFlag .z = s.readF.getLsbD 7 ∧ s.getFlag .n = s.readF.getLsbD 6 ∧ s.getFlag .h = s.readF.getLsbD 5 ∧
      s.getFlag .c = s.readF.getLsbD 4) ∧
    s.readF &&& 0x0F#8 = 0#8 ∧ loByte (s.getPair .af) &&& 0x0F#8 = 0#8 ∧
    (∀ v : Byte, (s.writeF v).f = v &&& 0xF0#8 ∧ (s.writeF v).readF = v &&& 0xF0#8) ∧
    (∀ v : Word, (s.setPair .af v).f &&& 0x0F#8 = 0#8) ∧
    (∀ (fl : Flag) (v : Bool), (s.writeFlag fl v).getFlag fl = v ∧ SameFlagsBut s (s.writeFlag fl v) [fl] ∧
      (s.writeFlag fl v).f &&& 0x0F#8 = 0#8)

/-- O30 (stated; R110, R111, R112). Each completes from every state: the destination register receives the source
register, the immediate, or the byte at HL (the address before the write), PC advances by the instruction's length,
and no other register, flag, byte of memory or control state changes. -/
def Obligations.LoadRegister8 : Prop :=
  ∀ (s : State) (dst : Reg),
    (∀ r : Reg, encode (Instr.ldRegReg dst r) = [BitVec.ofNat 8 (0x40 + 8 * dst.code + r.code)] ∧
      ∃ t, exec (Instr.ldRegReg dst r) s = .next t ∧ t.getReg dst = s.getReg r ∧ t.pc = s.pc + 1 ∧ t.sp = s.sp ∧
        OnlyChanges s t [dst] [] []) ∧
    (∀ n : Byte, encode (Instr.ldRegImm dst n) = [BitVec.ofNat 8 (0x06 + 8 * dst.code), n] ∧
      ∃ t, exec (Instr.ldRegImm dst n) s = .next t ∧ t.getReg dst = n ∧ t.pc = s.pc + 2 ∧ t.sp = s.sp ∧
        OnlyChanges s t [dst] [] []) ∧
    (encode (Instr.ldRegMem dst) = [BitVec.ofNat 8 (0x46 + 8 * dst.code)] ∧
      ∃ t, exec (Instr.ldRegMem dst) s = .next t ∧ t.getReg dst = s.memRead (hl s) ∧ t.pc = s.pc + 1 ∧ t.sp = s.sp ∧
        OnlyChanges s t [dst] [] [])

/-- O31 (stated; R113, R114). Each completes from every state: the byte at HL reads as the register or immediate
afterwards, or as before where HL lies in ROM; every other byte, register, flag and control state is unchanged and PC
advances. -/
def Obligations.StoreAtHl : Prop :=
  ∀ s : State,
    (∀ r : Reg, encode (Instr.ldMemReg r) = [BitVec.ofNat 8 (0x70 + r.code)] ∧
      ∃ t, exec (Instr.ldMemReg r) s = .next t ∧ Stored s t (hl s) (s.getReg r) ∧ t.pc = s.pc + 1 ∧ t.sp = s.sp ∧
        OnlyChanges s t [] [] [hl s]) ∧
    (∀ n : Byte, encode (.ld_atHL_n n) = [0x36#8, n] ∧
      ∃ t, exec (.ld_atHL_n n) s = .next t ∧ Stored s t (hl s) n ∧ t.pc = s.pc + 2 ∧ t.sp = s.sp ∧
        OnlyChanges s t [] [] [hl s])

/-- O32 (stated; R115, R116, R119, R121, R123). Each completes from every state: A receives the byte at BC, at DE, at nn,
at 0xFF00 | n, at 0xFF00 | C; PC advances by the form's length and nothing else changes. -/
def Obligations.LoadAccumulator : Prop :=
  ∀ s : State,
    (encode .ld_A_atBC = [0x0A#8] ∧ ∃ t, exec .ld_A_atBC s = .next t ∧ LoadsA s t 1 (joinBytes s.b s.c)) ∧
    (encode .ld_A_atDE = [0x1A#8] ∧ ∃ t, exec .ld_A_atDE s = .next t ∧ LoadsA s t 1 (joinBytes s.d s.e)) ∧
    (∀ nn : Word, encode (.ld_A_atNN nn) = [0xFA#8, loByte nn, hiByte nn] ∧
      ∃ t, exec (.ld_A_atNN nn) s = .next t ∧ LoadsA s t 3 nn) ∧
    (∀ n : Byte, encode (.ldh_A_atN n) = [0xF0#8, n] ∧
      ∃ t, exec (.ldh_A_atN n) s = .next t ∧ LoadsA s t 2 (0xFF00#16 ||| n.setWidth 16)) ∧
    (encode .ld_A_atC = [0xF2#8] ∧
      ∃ t, exec .ld_A_atC s = .next t ∧ LoadsA s t 1 (0xFF00#16 ||| s.c.setWidth 16))

/-- O33 (stated; R117, R118, R120, R122, R124). Each completes from every state: the byte at BC, at DE, at nn, at 0xFF00 |
n, at 0xFF00 | C reads as A afterwards, or as before where the address lies in ROM; every other byte is unchanged, PC
advances and nothing else changes. -/
def Obligations.StoreAccumulator : Prop :=
  ∀ s : State,
    (encode .ld_atBC_A = [0x02#8] ∧ ∃ t, exec .ld_atBC_A s = .next t ∧ StoresA s t 1 (joinBytes s.b s.c)) ∧
    (encode .ld_atDE_A = [0x12#8] ∧ ∃ t, exec .ld_atDE_A s = .next t ∧ StoresA s t 1 (joinBytes s.d s.e)) ∧
    (∀ nn : Word, encode (.ld_atNN_A nn) = [0xEA#8, loByte nn, hiByte nn] ∧
      ∃ t, exec (.ld_atNN_A nn) s = .next t ∧ StoresA s t 3 nn) ∧
    (∀ n : Byte, encode (.ldh_atN_A n) = [0xE0#8, n] ∧
      ∃ t, exec (.ldh_atN_A n) s = .next t ∧ StoresA s t 2 (0xFF00#16 ||| n.setWidth 16)) ∧
    (encode .ld_atC_A = [0xE2#8] ∧
      ∃ t, exec .ld_atC_A s = .next t ∧ StoresA s t 1 (0xFF00#16 ||| s.c.setWidth 16))

/-- O34 (stated; R125, R126, R127, R128). Each completes from every state: the store or load is at the HL of before, HL is
then one more or one less modulo 2^16, and nothing but A (for the loads), H, L, PC and the stored byte changes. -/
def Obligations.LoadAndStoreWithHlStep : Prop :=
  ∀ s : State,
    (encode .ld_atHLinc_A = [0x22#8] ∧ ∃ t, exec .ld_atHLinc_A s = .next t ∧ Stored s t (hl s) s.a ∧ hl t = hl s + 1 ∧
      t.pc = s.pc + 1 ∧ t.sp = s.sp ∧ OnlyChanges s t [.h, .l] [] [hl s]) ∧
    (encode .ld_atHLdec_A = [0x32#8] ∧ ∃ t, exec .ld_atHLdec_A s = .next t ∧ Stored s t (hl s) s.a ∧ hl t = hl s - 1 ∧
      t.pc = s.pc + 1 ∧ t.sp = s.sp ∧ OnlyChanges s t [.h, .l] [] [hl s]) ∧
    (encode .ld_A_atHLinc = [0x2A#8] ∧ ∃ t, exec .ld_A_atHLinc s = .next t ∧ t.a = s.memRead (hl s) ∧ hl t = hl s + 1 ∧
      t.pc = s.pc + 1 ∧ t.sp = s.sp ∧ OnlyChanges s t [.a, .h, .l] [] []) ∧
    (encode .ld_A_atHLdec = [0x3A#8] ∧ ∃ t, exec .ld_A_atHLdec s = .next t ∧ t.a = s.memRead (hl s) ∧ hl t = hl s - 1 ∧
      t.pc = s.pc + 1 ∧ t.sp = s.sp ∧ OnlyChanges s t [.a, .h, .l] [] [])

/-- O35 (stated; R140, R142). LD rr,nn completes from every state: the pair or SP holds nn whatever it held, PC advances
by 3; LD SP,HL completes with SP equal to HL and PC advanced by 1; no flag, no byte of memory and no other register
changes. -/
def Obligations.LoadImmediate16AndCopyHl : Prop :=
  ∀ s : State,
    (∀ (r : Reg16) (nn : Word), encode (Instr.ldReg16Imm r nn) = [BitVec.ofNat 8 (0x01 + 16 * r.code), loByte nn, hiByte nn] ∧
      ∃ t, exec (Instr.ldReg16Imm r nn) s = .next t ∧ t.getReg16 r = nn ∧ t.pc = s.pc + 3 ∧
        (r ≠ .sp → t.sp = s.sp) ∧ OnlyChanges s t r.regs [] []) ∧
    (encode .ld_SP_HL = [0xF9#8] ∧
      ∃ t, exec .ld_SP_HL s = .next t ∧ t.sp = hl s ∧ t.pc = s.pc + 1 ∧ OnlyChanges s t [] [] [])

/-- O36 (stated; R141). It completes from every state: the byte at nn reads as SP[7:0] and at nn + 1 modulo 2^16 as
SP[15:8], each as before where it lies in ROM; every other byte and all else is unchanged; PC advances by 3. -/
def Obligations.StoreSpAtAddress : Prop :=
  ∀ (s : State) (nn : Word), encode (.ld_atNN_SP nn) = [0x08#8, loByte nn, hiByte nn] ∧
    ∃ t, exec (.ld_atNN_SP nn) s = .next t ∧ StoredWord s t nn s.sp ∧ t.pc = s.pc + 3 ∧ t.sp = s.sp ∧
      OnlyChanges s t [] [] [nn, nn + 1]

/-- O37 (stated; R143, R193, R194). Both complete from every state: the result is SP plus the signed displacement modulo
2^16, in HL (SP unchanged) or in SP (HL unchanged); N is 0 and Z, H, C follow R193 under DOC_16BIT or LR35902_8BIT as
configured; PC advances by 2 and nothing else changes. -/
def Obligations.SpPlusDisplacement : Prop :=
  ∀ (s : State) (e : Byte),
    (encode (.ld_HL_SPe e) = [0xF8#8, e] ∧
      ∃ t, exec (.ld_HL_SPe e) s = .next t ∧ hl t = BitVec.ofInt 16 (s.sp.toNat + e.toInt) ∧ t.sp = s.sp ∧
        t.pc = s.pc + 2 ∧ SpOffsetOutcome s t e ∧ OnlyChanges s t [.h, .l] [.z, .n, .h, .c] []) ∧
    (encode (.add_SP_e e) = [0xE8#8, e] ∧
      ∃ t, exec (.add_SP_e e) s = .next t ∧ t.sp = BitVec.ofInt 16 (s.sp.toNat + e.toInt) ∧
        t.pc = s.pc + 2 ∧ SpOffsetOutcome s t e ∧ OnlyChanges s t [] [.z, .n, .h, .c] [])

/-- O38 (stated; R144, R145, R62). Each completes from every state: the byte at SP - 2 reads as the pair's low byte and at
SP - 1 as its high byte (as before where it lies in ROM), SP is 2 less modulo 2^16, PC advances by 1 and nothing else
changes; the low byte pushed for AF has a zero low nibble. -/
def Obligations.PushStoresThePairBelowSp : Prop :=
  ∀ (p : Pair) (s : State), encode (Instr.push p) = [BitVec.ofNat 8 (0xC5 + 16 * p.code)] ∧
    (p = .af → loByte (s.getPair p) &&& 0x0F#8 = 0#8) ∧
    ∃ t, exec (Instr.push p) s = .next t ∧ Stored s t (s.sp - 2) (loByte (s.getPair p)) ∧
      Stored s t (s.sp - 1) (hiByte (s.getPair p)) ∧ t.sp = s.sp - 2 ∧ t.pc = s.pc + 1 ∧
      OnlyChanges s t [] [] [s.sp - 2, s.sp - 1]

/-- O39 (stated; R146, R147, R63). Each completes from every state: the pair reads as the word at SP, AF without its low
nibble and with Z, N, H, C from bits 7, 6, 5, 4; SP is 2 more modulo 2^16, PC advances by 1, and nothing but the
pair's registers (and for AF the flags) changes. -/
def Obligations.PopLoadsThePairFromSp : Prop :=
  ∀ (p : Pair) (s : State), encode (Instr.pop p) = [BitVec.ofNat 8 (0xC1 + 16 * p.code)] ∧
    ∃ t, exec (Instr.pop p) s = .next t ∧
      t.getPair p = (if p = .af then wordAt s s.sp &&& 0xFFF0#16 else wordAt s s.sp) ∧
      (p = .af → t.getFlag .z = (wordAt s s.sp).getLsbD 7 ∧ t.getFlag .n = (wordAt s s.sp).getLsbD 6 ∧
        t.getFlag .h = (wordAt s s.sp).getLsbD 5 ∧ t.getFlag .c = (wordAt s s.sp).getLsbD 4) ∧
      t.sp = s.sp + 2 ∧ t.pc = s.pc + 1 ∧ OnlyChanges s t p.regs p.flags []

/-- O40 (stated; R64). If neither SP - 1 nor SP - 2 lies in ROM, executing PUSH of a pair and then POP of the same pair
gives the pair and SP the values they had, for AF too. For every list of words whose stack bytes below SP are all
writable, pushing them in order and popping as many gives them back in reverse order with SP as before; PUSH and POP
are those two operations on memory and SP. -/
def Obligations.StackIsLastInFirstOut : Prop :=
  (∀ (p : Pair) (s : State), ¬ InRom s (s.sp - 1) → ¬ InRom s (s.sp - 2) →
    ∃ t u, exec (Instr.push p) s = .next t ∧ exec (Instr.pop p) t = .next u ∧
      u.getPair p = s.getPair p ∧ u.sp = s.sp) ∧
  (∀ (vs : List Word) (s : State), 2 * vs.length ≤ 65536 →
    (∀ k : Nat, 1 ≤ k → k ≤ 2 * vs.length → ¬ InRom s (s.sp - BitVec.ofNat 16 k)) →
    (popAll vs.length (pushAll vs s)).1 = vs.reverse ∧ (popAll vs.length (pushAll vs s)).2.sp = s.sp) ∧
  (∀ (p : Pair) (s : State), ∃ t u, exec (Instr.push p) s = .next t ∧ t.sp = (pushAll [s.getPair p] s).sp ∧
    t.mem = (pushAll [s.getPair p] s).mem ∧ exec (Instr.pop p) s = .next u ∧ u.sp = (popAll 1 s).2.sp ∧
    u.mem = (popAll 1 s).2.mem ∧ (p ≠ .af → [u.getPair p] = (popAll 1 s).1))

/-- O41 (stated; R160, R163, R164). With a register, (HL) or an immediate as operand, each completes from every state with
A and the four flags as the integer sum gives them (ADC adding FC of before), PC advanced by the form's length, and
nothing else changed. -/
def Obligations.AddAndAddWithCarry : Prop :=
  ∀ s : State,
    (∀ o : Operand8, encode (Instr.alu .add o) = [BitVec.ofNat 8 (0x80 + o.code)] ∧
      ∃ t, exec (Instr.alu .add o) s = .next t ∧ t.pc = s.pc + 1 ∧ AddOutcome s t (o.value s) 0) ∧
    (∀ n : Byte, encode (Instr.aluImm .add n) = [0xC6#8, n] ∧
      ∃ t, exec (Instr.aluImm .add n) s = .next t ∧ t.pc = s.pc + 2 ∧ AddOutcome s t n 0) ∧
    (∀ o : Operand8, encode (Instr.alu .adc o) = [BitVec.ofNat 8 (0x88 + o.code)] ∧
      ∃ t, exec (Instr.alu .adc o) s = .next t ∧ t.pc = s.pc + 1 ∧ AddOutcome s t (o.value s) (s.getFlag .c).toNat) ∧
    (∀ n : Byte, encode (Instr.aluImm .adc n) = [0xCE#8, n] ∧
      ∃ t, exec (Instr.aluImm .adc n) s = .next t ∧ t.pc = s.pc + 2 ∧ AddOutcome s t n (s.getFlag .c).toNat)

/-- O42 (stated; R161, R165, R166, R170). With a register, (HL) or an immediate as operand, each completes from every
state with A (not for CP) and the four flags as the integer difference gives them (SBC subtracting FC of before), PC
advanced by the form's length, and nothing else changed. -/
def Obligations.SubtractAndCompare : Prop :=
  ∀ s : State,
    (∀ o : Operand8, encode (Instr.alu .sub o) = [BitVec.ofNat 8 (0x90 + o.code)] ∧
      ∃ t, exec (Instr.alu .sub o) s = .next t ∧ t.pc = s.pc + 1 ∧ SubOutcome s t (o.value s) 0) ∧
    (∀ n : Byte, encode (Instr.aluImm .sub n) = [0xD6#8, n] ∧
      ∃ t, exec (Instr.aluImm .sub n) s = .next t ∧ t.pc = s.pc + 2 ∧ SubOutcome s t n 0) ∧
    (∀ o : Operand8, encode (Instr.alu .sbc o) = [BitVec.ofNat 8 (0x98 + o.code)] ∧
      ∃ t, exec (Instr.alu .sbc o) s = .next t ∧ t.pc = s.pc + 1 ∧ SubOutcome s t (o.value s) (s.getFlag .c).toNat) ∧
    (∀ n : Byte, encode (Instr.aluImm .sbc n) = [0xDE#8, n] ∧
      ∃ t, exec (Instr.aluImm .sbc n) s = .next t ∧ t.pc = s.pc + 2 ∧ SubOutcome s t n (s.getFlag .c).toNat) ∧
    (∀ o : Operand8, encode (Instr.alu .cp o) = [BitVec.ofNat 8 (0xB8 + o.code)] ∧
      ∃ t, exec (Instr.alu .cp o) s = .next t ∧ t.pc = s.pc + 1 ∧ CpOutcome s t (o.value s)) ∧
    (∀ n : Byte, encode (Instr.aluImm .cp n) = [0xFE#8, n] ∧
      ∃ t, exec (Instr.aluImm .cp n) s = .next t ∧ t.pc = s.pc + 2 ∧ CpOutcome s t n)

/-- O43 (stated; R167, R168, R169). With a register, (HL) or an immediate as operand, each completes from every state with
A and the four flags so set, PC advanced by the form's length, and nothing else changed. -/
def Obligations.BitwiseLogic : Prop :=
  ∀ s : State,
    (∀ o : Operand8, encode (Instr.alu .and o) = [BitVec.ofNat 8 (0xA0 + o.code)] ∧
      ∃ t, exec (Instr.alu .and o) s = .next t ∧ t.pc = s.pc + 1 ∧ LogicOutcome s t (s.a &&& o.value s) true) ∧
    (∀ n : Byte, encode (Instr.aluImm .and n) = [0xE6#8, n] ∧
      ∃ t, exec (Instr.aluImm .and n) s = .next t ∧ t.pc = s.pc + 2 ∧ LogicOutcome s t (s.a &&& n) true) ∧
    (∀ o : Operand8, encode (Instr.alu .xor o) = [BitVec.ofNat 8 (0xA8 + o.code)] ∧
      ∃ t, exec (Instr.alu .xor o) s = .next t ∧ t.pc = s.pc + 1 ∧ LogicOutcome s t (s.a ^^^ o.value s) false) ∧
    (∀ n : Byte, encode (Instr.aluImm .xor n) = [0xEE#8, n] ∧
      ∃ t, exec (Instr.aluImm .xor n) s = .next t ∧ t.pc = s.pc + 2 ∧ LogicOutcome s t (s.a ^^^ n) false) ∧
    (∀ o : Operand8, encode (Instr.alu .or o) = [BitVec.ofNat 8 (0xB0 + o.code)] ∧
      ∃ t, exec (Instr.alu .or o) s = .next t ∧ t.pc = s.pc + 1 ∧ LogicOutcome s t (s.a ||| o.value s) false) ∧
    (∀ n : Byte, encode (Instr.aluImm .or n) = [0xF6#8, n] ∧
      ∃ t, exec (Instr.aluImm .or n) s = .next t ∧ t.pc = s.pc + 2 ∧ LogicOutcome s t (s.a ||| n) false)

/-- O44 (stated; R171, R172, R173, R174). Each completes from every state: the register or the byte at HL is one more or
one less modulo 256 (a ROM byte stays), Z tells whether the result is 0, N is 0 for INC and 1 for DEC, H tells a low
nibble of 0xF for INC and 0x0 for DEC before, C and all else is unchanged, PC advances by 1. -/
def Obligations.IncrementAndDecrement8 : Prop :=
  ∀ (s : State) (o : Operand8),
    (encode (Instr.inc8 o) = [BitVec.ofNat 8 (0x04 + 8 * o.code)] ∧
      ∃ t, exec (Instr.inc8 o) s = .next t ∧ o.Wrote s t (BitVec.ofNat 8 ((o.value s).toNat + 1)) ∧
        (t.getFlag .z = true ↔ (o.value s).toNat = 0xFF) ∧ t.getFlag .n = false ∧
        (t.getFlag .h = true ↔ (o.value s).toNat % 16 = 0xF) ∧ t.pc = s.pc + 1 ∧ t.sp = s.sp ∧
        OnlyChanges s t o.regs [.z, .n, .h] (o.addrs s)) ∧
    (encode (Instr.dec8 o) = [BitVec.ofNat 8 (0x05 + 8 * o.code)] ∧
      ∃ t, exec (Instr.dec8 o) s = .next t ∧ o.Wrote s t (BitVec.ofNat 8 ((o.value s).toNat + 255)) ∧
        (t.getFlag .z = true ↔ (o.value s).toNat = 1) ∧ t.getFlag .n = true ∧
        (t.getFlag .h = true ↔ (o.value s).toNat % 16 = 0) ∧ t.pc = s.pc + 1 ∧ t.sp = s.sp ∧
        OnlyChanges s t o.regs [.z, .n, .h] (o.addrs s))

/-- O45 (stated; R190). It completes from every state for BC, DE, HL and SP, with HL and the flags N, H, C as the integer
sum gives them, Z unchanged, PC advanced by 1, and nothing else changed. -/
def Obligations.AddToHl : Prop :=
  ∀ (s : State) (r : Reg16), encode (Instr.addHl r) = [BitVec.ofNat 8 (0x09 + 16 * r.code)] ∧
    ∃ t, exec (Instr.addHl r) s = .next t ∧
      (hl t).toNat = ((hl s).toNat + (s.getReg16 r).toNat) % 65536 ∧ t.getFlag .n = false ∧
      (t.getFlag .h = true ↔ 0x0FFF < (hl s).toNat % 0x1000 + (s.getReg16 r).toNat % 0x1000) ∧
      (t.getFlag .c = true ↔ 0xFFFF < (hl s).toNat + (s.getReg16 r).toNat) ∧
      t.pc = s.pc + 1 ∧ t.sp = s.sp ∧ OnlyChanges s t [.h, .l] [.n, .h, .c] []

/-- O46 (stated; R191, R192). Each completes from every state for BC, DE, HL and SP: the register is one more or one less
modulo 2^16, PC advances by 1, and no flag, no byte of memory and no other register changes. -/
def Obligations.IncrementAndDecrement16 : Prop :=
  ∀ (s : State) (r : Reg16),
    (encode (Instr.inc16 r) = [BitVec.ofNat 8 (0x03 + 16 * r.code)] ∧
      ∃ t, exec (Instr.inc16 r) s = .next t ∧ (t.getReg16 r).toNat = ((s.getReg16 r).toNat + 1) % 65536 ∧
        t.pc = s.pc + 1 ∧ (r ≠ .sp → t.sp = s.sp) ∧ OnlyChanges s t r.regs [] []) ∧
    (encode (Instr.dec16 r) = [BitVec.ofNat 8 (0x0B + 16 * r.code)] ∧
      ∃ t, exec (Instr.dec16 r) s = .next t ∧ (t.getReg16 r).toNat = ((s.getReg16 r).toNat + 65535) % 65536 ∧
        t.pc = s.pc + 1 ∧ (r ≠ .sp → t.sp = s.sp) ∧ OnlyChanges s t r.regs [] [])

/-- O47 (derived; 44_misc_control.md R200, 44_misc_control.md R201, 44_misc_control.md R202). Each completes from every
state: NOP changes PC only; HALT enters Halted with HALT_CAUSE HALT and PC one further; STOP enters Halted with
HALT_CAUSE STOP and PC further by STOP_LENGTH; registers, flags, memory, IME, IME_PENDING and FAULT are unchanged. The
STOP clause covers every stop term; for one whose optional byte does not agree with STOP_LENGTH, which the decoder
never gives, the advance by STOP_LENGTH is the model's choice (log entry 6), not R202's. -/
def Obligations.NopHaltAndStop : Prop :=
  ∀ s : State,
    (encode .nop = [0x00#8] ∧ ∃ t, exec .nop s = .next t ∧ OnlyAdvanced s t 1) ∧
    (encode .halt = [0x76#8] ∧ exec .halt s = .next { s with
      pc := s.pc + 1, mode := .halted, haltCause := .halt }) ∧
    (∀ x : Option Byte, encode (.stop x) = 0x10#8 :: x.toList ∧ exec (.stop x) s = .next { s with
      pc := s.pc + (if s.config.stopLength = .two then 2 else 1), mode := .halted, haltCause := .stop })

/-- O48 (derived; 44_misc_control.md R203, 44_misc_control.md R204). Each completes from every state: DI leaves IME = 0
and IME_PENDING = 0; EI leaves IME_PENDING = 1 and IME as it is; PC advances by 1 and registers, flags, SP, memory and
mode are unchanged. -/
def Obligations.DisableAndEnableInterrupts : Prop :=
  ∀ s : State,
    (encode .di = [0xF3#8] ∧ exec .di s = .next { s with pc := s.pc + 1, ime := false, imePending := false }) ∧
    (encode .ei = [0xFB#8] ∧ exec .ei s = .next { s with pc := s.pc + 1, imePending := true })

/-- O49 (stated; R205). It completes from every state: after an addition A gains 0x60 if C was set or A exceeded 0x99 (C
then 1) and 0x06 if H was set or the low nibble exceeded 9; after a subtraction it loses 0x60 if C was set and 0x06 if
H was set (C kept); Z tells whether the result is 0, H is 0, N and all else unchanged, PC advances by 1. -/
def Obligations.DecimalAdjust : Prop :=
  ∀ s : State, encode .daa = [0x27#8] ∧ ∃ t, exec .daa s = .next t ∧
    (s.getFlag .n = false →
      t.a.toNat = (s.a.toNat + (if s.getFlag .c = true ∨ 0x99 < s.a.toNat then 0x60 else 0) +
        (if s.getFlag .h = true ∨ 9 < s.a.toNat % 16 then 0x06 else 0)) % 256 ∧
      (t.getFlag .c = true ↔ (s.getFlag .c = true ∨ 0x99 < s.a.toNat))) ∧
    (s.getFlag .n = true →
      (t.a.toNat : Int) = ((s.a.toNat : Int) - (if s.getFlag .c = true then 0x60 else 0) -
        (if s.getFlag .h = true then 0x06 else 0)) % 256 ∧
      t.getFlag .c = s.getFlag .c) ∧
    (t.getFlag .z = true ↔ t.a = 0#8) ∧ t.getFlag .h = false ∧ t.pc = s.pc + 1 ∧ t.sp = s.sp ∧
    OnlyChanges s t [.a] [.z, .h, .c] []

/-- O50 (derived; 44_misc_control.md R205, 42_alu8.md R163, 42_alu8.md R165). For all x and y below 100 and every state
with A the BCD byte of x: ADD of the BCD byte of y and then DAA leaves A the BCD byte of (x + y) mod 100 with C set
exactly when x + y is at least 100; SUB of it and then DAA leaves the BCD byte of (x - y) mod 100 with C set exactly
when x is less than y. -/
def Obligations.DecimalAdjustCorrectsBcdSums : Prop :=
  ∀ (x y : Nat) (s : State), x < 100 → y < 100 → s.a = bcd x →
    (∃ t u, exec (Instr.aluImm .add (bcd y)) s = .next t ∧ exec .daa t = .next u ∧
      u.a = bcd ((x + y) % 100) ∧ (u.getFlag .c = true ↔ 100 ≤ x + y)) ∧
    (∃ t u, exec (Instr.aluImm .sub (bcd y)) s = .next t ∧ exec .daa t = .next u ∧
      u.a = bcd ((x + 100 - y) % 100) ∧ (u.getFlag .c = true ↔ x < y))

/-- O51 (stated; R206, R207, R208). Each completes from every state: CPL leaves A as 255 - A with N = H = 1, Z and C
unchanged; SCF leaves C = 1 and CCF the inverse of C, both with N = H = 0 and Z unchanged; PC advances by 1 and
nothing else changes. -/
def Obligations.ComplementAndCarryFlagInstructions : Prop :=
  ∀ s : State,
    (encode .cpl = [0x2F#8] ∧ ∃ t, exec .cpl s = .next t ∧ t.a.toNat = 255 - s.a.toNat ∧ t.getFlag .n = true ∧
      t.getFlag .h = true ∧ t.pc = s.pc + 1 ∧ t.sp = s.sp ∧ OnlyChanges s t [.a] [.n, .h] []) ∧
    (encode .scf = [0x37#8] ∧ ∃ t, exec .scf s = .next t ∧ t.getFlag .n = false ∧ t.getFlag .h = false ∧
      t.getFlag .c = true ∧ t.pc = s.pc + 1 ∧ t.sp = s.sp ∧ OnlyChanges s t [] [.n, .h, .c] []) ∧
    (encode .ccf = [0x3F#8] ∧ ∃ t, exec .ccf s = .next t ∧ t.getFlag .n = false ∧ t.getFlag .h = false ∧
      t.getFlag .c = !s.getFlag .c ∧ t.pc = s.pc + 1 ∧ t.sp = s.sp ∧ OnlyChanges s t [] [.n, .h, .c] [])

/-- O52 (stated; R220, R221, R222, R223). Each completes from every state with A rotated (through FC of before for RLA and
RRA), C the bit shifted out, Z = 0 even for a zero result, N = H = 0, PC advanced by 1, and nothing else changed. -/
def Obligations.AccumulatorRotates : Prop :=
  ∀ s : State, ∀ row ∈ ([(Instr.rlca, 0x07#8, ShiftOp.rlc), (.rrca, 0x0F#8, .rrc), (.rla, 0x17#8, .rl), (.rra, 0x1F#8, .rr)] :
      List (Instr × Byte × ShiftOp)),
    encode row.1 = [row.2.1] ∧ ∃ t, exec row.1 s = .next t ∧
      t.a.toNat = shiftResult row.2.2 s.a.toNat (s.getFlag .c).toNat ∧
      (t.getFlag .c).toNat = shiftCarry row.2.2 s.a.toNat ∧
      t.getFlag .z = false ∧ t.getFlag .n = false ∧ t.getFlag .h = false ∧
      t.pc = s.pc + 1 ∧ t.sp = s.sp ∧ OnlyChanges s t [.a] [.z, .n, .h, .c] []

/-- O53 (derived; 45_rotate_shift.md R224, 45_rotate_shift.md R225, 45_rotate_shift.md R226, 45_rotate_shift.md R227,
45_rotate_shift.md R228, 45_rotate_shift.md R229, 45_rotate_shift.md R230, 45_rotate_shift.md R231, 45_rotate_shift.md
R232). Each completes from every state: the register or the byte at HL (ignored in ROM) receives the rotated, shifted
or swapped value, Z tells whether it is 0, N = H = 0, C is the bit shifted out (0 for SWAP), PC advances by 2, and
nothing else changes. The rules say so where the CB page is populated; where it is absent these instructions do not
exist, the decoder never gives them, and that exec has the same effect there is the model's choice (log entry 6). -/
def Obligations.CbPageRotatesAndShifts : Prop :=
  ∀ (s : State) (op : ShiftOp) (o : Operand8),
    encode (Instr.shift op o) = [0xCB#8, BitVec.ofNat 8 (8 * op.code + o.code)] ∧
    ∃ t, exec (Instr.shift op o) s = .next t ∧
      o.Wrote s t (BitVec.ofNat 8 (shiftResult op (o.value s).toNat (s.getFlag .c).toNat)) ∧
      (t.getFlag .z = true ↔ shiftResult op (o.value s).toNat (s.getFlag .c).toNat = 0) ∧
      t.getFlag .n = false ∧ t.getFlag .h = false ∧ (t.getFlag .c).toNat = shiftCarry op (o.value s).toNat ∧
      t.pc = s.pc + 2 ∧ t.sp = s.sp ∧ OnlyChanges s t o.regs [.z, .n, .h, .c] (o.addrs s)

/-- O54 (derived; 46_bit.md R240). It completes from every state for every bit and operand, ROM included: Z is 1 exactly
when the bit is 0, N = 0, H = 1, PC advances by 2, and nothing else changes. R240 says so where the CB page is
populated; where it is absent BIT does not exist, the decoder never gives it, and that exec has the same effect there
is the model's choice (log entry 6). -/
def Obligations.TestBit : Prop :=
  ∀ (s : State) (n : Fin 8) (o : Operand8),
    encode (Instr.bit n o) = [0xCB#8, BitVec.ofNat 8 (0x40 + 8 * n.val + o.code)] ∧
    ∃ t, exec (Instr.bit n o) s = .next t ∧ (t.getFlag .z = true ↔ (o.value s).toNat / 2 ^ n.val % 2 = 0) ∧
      t.getFlag .n = false ∧ t.getFlag .h = true ∧ t.pc = s.pc + 2 ∧ t.sp = s.sp ∧
      OnlyChanges s t [] [.z, .n, .h] []

/-- O55 (derived; 46_bit.md R241, 46_bit.md R242). Each completes from every state for every bit and operand: the register
or the byte at HL (ignored in ROM) receives its old value with bit b cleared or set, PC advances by 2, and nothing
else changes. R241 and R242 say so where the CB page is populated; where it is absent RES and SET do not exist, the
decoder never gives them, and that exec has the same effect there is the model's choice (log entry 6). -/
def Obligations.ResetAndSetBit : Prop :=
  ∀ (s : State) (n : Fin 8) (o : Operand8),
    (encode (Instr.res n o) = [0xCB#8, BitVec.ofNat 8 (0x80 + 8 * n.val + o.code)] ∧
      ∃ t res, exec (Instr.res n o) s = .next t ∧ o.Wrote s t res ∧
        (∀ j : Nat, j < 8 → res.getLsbD j = (if j = n.val then false else (o.value s).getLsbD j)) ∧
        t.pc = s.pc + 2 ∧ t.sp = s.sp ∧ OnlyChanges s t o.regs [] (o.addrs s)) ∧
    (encode (Instr.set n o) = [0xCB#8, BitVec.ofNat 8 (0xC0 + 8 * n.val + o.code)] ∧
      ∃ t res, exec (Instr.set n o) s = .next t ∧ o.Wrote s t res ∧
        (∀ j : Nat, j < 8 → res.getLsbD j = (if j = n.val then true else (o.value s).getLsbD j)) ∧
        t.pc = s.pc + 2 ∧ t.sp = s.sp ∧ OnlyChanges s t o.regs [] (o.addrs s))

/-- O56 (stated; R250, R251, R254). Each completes from every state: PC becomes nn, the address after the instruction plus
the signed displacement modulo 2^16, or HL itself (no memory is read); registers, flags, SP and memory are unchanged. -/
def Obligations.UnconditionalJumps : Prop :=
  ∀ s : State,
    (∀ nn : Word, encode (.jp_nn nn) = [0xC3#8, loByte nn, hiByte nn] ∧
      ∃ t, exec (.jp_nn nn) s = .next t ∧ t.pc = nn ∧ t.sp = s.sp ∧ OnlyChanges s t [] [] []) ∧
    (∀ e : Byte, encode (.jr_e e) = [0x18#8, e] ∧
      ∃ t, exec (.jr_e e) s = .next t ∧ t.pc = relativeTarget s 2 e ∧ t.sp = s.sp ∧ OnlyChanges s t [] [] []) ∧
    (encode .jp_HL = [0xE9#8] ∧
      ∃ t, exec .jp_HL s = .next t ∧ t.pc = hl s ∧ t.sp = s.sp ∧ OnlyChanges s t [] [] [])

/-- O57 (stated; R252, R253). Each completes from every state: if the condition holds on the flags of before, PC is the
target, else the address after the instruction; registers, flags, SP and memory are unchanged either way. -/
def Obligations.ConditionalJumps : Prop :=
  ∀ (s : State) (cc : Cond),
    (∀ nn : Word, encode (Instr.jpIf cc nn) = [BitVec.ofNat 8 (0xC2 + 8 * cc.code), loByte nn, hiByte nn] ∧
      ∃ t, exec (Instr.jpIf cc nn) s = .next t ∧ (CondHolds s cc → t.pc = nn) ∧ (¬ CondHolds s cc → t.pc = s.pc + 3) ∧
        t.sp = s.sp ∧ OnlyChanges s t [] [] []) ∧
    (∀ e : Byte, encode (Instr.jrIf cc e) = [BitVec.ofNat 8 (0x20 + 8 * cc.code), e] ∧
      ∃ t, exec (Instr.jrIf cc e) s = .next t ∧ (CondHolds s cc → t.pc = relativeTarget s 2 e) ∧
        (¬ CondHolds s cc → t.pc = s.pc + 2) ∧ t.sp = s.sp ∧ OnlyChanges s t [] [] [])

/-- O58 (stated; R260, R261). CALL nn completes from every state: the address after the instruction is stored at SP - 2
and SP - 1 (as before where in ROM), SP is 2 less, PC is nn. CALL cc,nn does so exactly when the condition holds, and
otherwise only advances PC by 3. Nothing else changes. -/
def Obligations.CallsPushTheReturnAddress : Prop :=
  ∀ s : State,
    (∀ nn : Word, encode (.call_nn nn) = [0xCD#8, loByte nn, hiByte nn] ∧
      ∃ t, exec (.call_nn nn) s = .next t ∧ Called s t 3 nn) ∧
    (∀ (cc : Cond) (nn : Word), encode (Instr.callIf cc nn) = [BitVec.ofNat 8 (0xC4 + 8 * cc.code), loByte nn, hiByte nn] ∧
      ∃ t, exec (Instr.callIf cc nn) s = .next t ∧ (CondHolds s cc → Called s t 3 nn) ∧
        (¬ CondHolds s cc → OnlyAdvanced s t 3))

/-- O59 (stated; R264). It completes from every state for the eight vectors: the address after the instruction is pushed,
PC is the zero-extended vector, SP is 2 less, and nothing else changes. -/
def Obligations.RestartCallsItsVector : Prop :=
  ∀ (s : State) (y : Fin 8), encode (Instr.rst y) = [BitVec.ofNat 8 (0xC7 + 8 * y.val)] ∧
    ∃ t, exec (Instr.rst y) s = .next t ∧ Called s t 1 (BitVec.ofNat 16 (8 * y.val))

/-- O60 (stated; R262, R263, R266). RET completes from every state with PC the word at SP and SP 2 more; RET cc does so
exactly when the condition holds and otherwise only advances PC by 1; RETI does as RET and leaves IME = 1 and
IME_PENDING = 0. No register, flag or byte of memory changes. -/
def Obligations.ReturnsPopTheAddress : Prop :=
  ∀ s : State,
    (encode .ret = [0xC9#8] ∧
      ∃ t, exec .ret s = .next t ∧ t.pc = wordAt s s.sp ∧ t.sp = s.sp + 2 ∧ OnlyChanges s t [] [] []) ∧
    (∀ cc : Cond, encode (Instr.retIf cc) = [BitVec.ofNat 8 (0xC0 + 8 * cc.code)] ∧
      ∃ t, exec (Instr.retIf cc) s = .next t ∧
        (CondHolds s cc → t.pc = wordAt s s.sp ∧ t.sp = s.sp + 2) ∧
        (¬ CondHolds s cc → t.pc = s.pc + 1 ∧ t.sp = s.sp) ∧ OnlyChanges s t [] [] []) ∧
    (encode .reti = [0xD9#8] ∧ exec .reti s = .next { s with
      pc := wordAt s s.sp, sp := s.sp + 2, ime := true, imePending := false })
end

