-- ==== Sys2Proof/Laws/Families.lean ====
section
/-! SUPPORT. The meaning of each family of the opcode table, once, and the case split over families: a statement about
every instruction is proved from one case per family and one per instruction that stands alone. -/

namespace Sys2Proof.Machine

theorem exec_ldRegReg (dst : Reg) (r : Reg) (s : State) :
    exec (Instr.ldRegReg dst r) s = .next (ldRegReg dst r s) := by
  cases dst <;> cases r <;> rfl

theorem exec_ldRegImm (dst : Reg) (n : Byte) (s : State) :
    exec (Instr.ldRegImm dst n) s = .next (ldRegImm dst n s) := by
  cases dst <;> rfl

theorem exec_ldRegMem (dst : Reg) (s : State) :
    exec (Instr.ldRegMem dst) s = .next (ldRegMem dst s) := by
  cases dst <;> rfl

theorem exec_ldMemReg (r : Reg) (s : State) :
    exec (Instr.ldMemReg r) s = .next (ldMemReg r s) := by
  cases r <;> rfl

theorem exec_ldReg16Imm (r : Reg16) (nn : Word) (s : State) :
    exec (Instr.ldReg16Imm r nn) s = .next (ldReg16Imm r nn s) := by
  cases r <;> rfl

theorem exec_push (p : Pair) (s : State) :
    exec (Instr.push p) s = .next (pushPair p s) := by
  cases p <;> rfl

theorem exec_pop (p : Pair) (s : State) :
    exec (Instr.pop p) s = .next (popPair p s) := by
  cases p <;> rfl

theorem exec_alu (op : AluOp) (o : Operand8) (s : State) :
    exec (Instr.alu op o) s = .next (aluOperand op o s) := by
  cases op <;> (obtain r | _ := o) <;> (try cases r) <;> rfl

theorem exec_aluImm (op : AluOp) (n : Byte) (s : State) :
    exec (Instr.aluImm op n) s = .next (aluImm op n s) := by
  cases op <;> rfl

theorem exec_inc8 (o : Operand8) (s : State) :
    exec (Instr.inc8 o) s = .next (inc8 o s) := by
  (obtain r | _ := o) <;> (try cases r) <;> rfl

theorem exec_dec8 (o : Operand8) (s : State) :
    exec (Instr.dec8 o) s = .next (dec8 o s) := by
  (obtain r | _ := o) <;> (try cases r) <;> rfl

theorem exec_addHl (r : Reg16) (s : State) :
    exec (Instr.addHl r) s = .next (addHl r s) := by
  cases r <;> rfl

theorem exec_inc16 (r : Reg16) (s : State) :
    exec (Instr.inc16 r) s = .next (inc16 r s) := by
  cases r <;> rfl

theorem exec_dec16 (r : Reg16) (s : State) :
    exec (Instr.dec16 r) s = .next (dec16 r s) := by
  cases r <;> rfl

theorem exec_shift (op : ShiftOp) (o : Operand8) (s : State) :
    exec (Instr.shift op o) s = .next (shiftOperand op o s) := by
  cases op <;> (obtain r | _ := o) <;> (try cases r) <;> rfl

theorem exec_bit (n : Fin 8) (o : Operand8) (s : State) :
    exec (Instr.bit n o) s = .next (testBit n o s) := by
  fin_cases n <;> (obtain r | _ := o) <;> (try cases r) <;> rfl

theorem exec_res (n : Fin 8) (o : Operand8) (s : State) :
    exec (Instr.res n o) s = .next (resetBit n o s) := by
  fin_cases n <;> (obtain r | _ := o) <;> (try cases r) <;> rfl

theorem exec_set (n : Fin 8) (o : Operand8) (s : State) :
    exec (Instr.set n o) s = .next (setBit n o s) := by
  fin_cases n <;> (obtain r | _ := o) <;> (try cases r) <;> rfl

theorem exec_jpIf (cc : Cond) (nn : Word) (s : State) :
    exec (Instr.jpIf cc nn) s = .next (jumpIf cc nn s) := by
  cases cc <;> rfl

theorem exec_jrIf (cc : Cond) (x : Byte) (s : State) :
    exec (Instr.jrIf cc x) s = .next (jumpRelativeIf cc x s) := by
  cases cc <;> rfl

theorem exec_callIf (cc : Cond) (nn : Word) (s : State) :
    exec (Instr.callIf cc nn) s = .next (callIf cc nn s) := by
  cases cc <;> rfl

theorem exec_retIf (cc : Cond) (s : State) :
    exec (Instr.retIf cc) s = .next (returnIf cc s) := by
  cases cc <;> rfl

theorem exec_rst (y : Fin 8) (s : State) :
    exec (Instr.rst y) s = .next (restart y s) := by
  fin_cases y <;> rfl

/-- Every instruction is one of a family or stands alone. -/
theorem byFamily {P : Instr → Prop}
    (ldRegReg : ∀ (dst : Reg) (r : Reg), P (Instr.ldRegReg dst r))
    (ldRegImm : ∀ (dst : Reg) (n : Byte), P (Instr.ldRegImm dst n))
    (ldRegMem : ∀ (dst : Reg), P (Instr.ldRegMem dst))
    (ldMemReg : ∀ (r : Reg), P (Instr.ldMemReg r))
    (ldReg16Imm : ∀ (r : Reg16) (nn : Word), P (Instr.ldReg16Imm r nn))
    (push : ∀ (p : Pair), P (Instr.push p))
    (pop : ∀ (p : Pair), P (Instr.pop p))
    (alu : ∀ (op : AluOp) (o : Operand8), P (Instr.alu op o))
    (aluImm : ∀ (op : AluOp) (n : Byte), P (Instr.aluImm op n))
    (inc8 : ∀ (o : Operand8), P (Instr.inc8 o))
    (dec8 : ∀ (o : Operand8), P (Instr.dec8 o))
    (addHl : ∀ (r : Reg16), P (Instr.addHl r))
    (inc16 : ∀ (r : Reg16), P (Instr.inc16 r))
    (dec16 : ∀ (r : Reg16), P (Instr.dec16 r))
    (shift : ∀ (op : ShiftOp) (o : Operand8), P (Instr.shift op o))
    (bit : ∀ (n : Fin 8) (o : Operand8), P (Instr.bit n o))
    (res : ∀ (n : Fin 8) (o : Operand8), P (Instr.res n o))
    (set : ∀ (n : Fin 8) (o : Operand8), P (Instr.set n o))
    (jpIf : ∀ (cc : Cond) (nn : Word), P (Instr.jpIf cc nn))
    (jrIf : ∀ (cc : Cond) (x : Byte), P (Instr.jrIf cc x))
    (callIf : ∀ (cc : Cond) (nn : Word), P (Instr.callIf cc nn))
    (retIf : ∀ (cc : Cond), P (Instr.retIf cc))
    (rst : ∀ (y : Fin 8), P (Instr.rst y))
    (ld_atNN_SP : ∀ (nn : Word), P (.ld_atNN_SP nn))
    (stop : ∀ (ignored : Option Byte), P (.stop ignored))
    (jr_e : ∀ (e : Byte), P (.jr_e e))
    (ld_atHL_n : ∀ (n : Byte), P (.ld_atHL_n n))
    (jp_nn : ∀ (nn : Word), P (.jp_nn nn))
    (call_nn : ∀ (nn : Word), P (.call_nn nn))
    (unmapped : ∀ (op : Byte), P (.unmapped op))
    (ldh_atN_A : ∀ (n : Byte), P (.ldh_atN_A n))
    (add_SP_e : ∀ (e : Byte), P (.add_SP_e e))
    (ld_atNN_A : ∀ (nn : Word), P (.ld_atNN_A nn))
    (ldh_A_atN : ∀ (n : Byte), P (.ldh_A_atN n))
    (ld_HL_SPe : ∀ (e : Byte), P (.ld_HL_SPe e))
    (ld_A_atNN : ∀ (nn : Word), P (.ld_A_atNN nn))
    (nop : P .nop)
    (ld_atBC_A : P .ld_atBC_A)
    (rlca : P .rlca)
    (ld_A_atBC : P .ld_A_atBC)
    (rrca : P .rrca)
    (ld_atDE_A : P .ld_atDE_A)
    (rla : P .rla)
    (ld_A_atDE : P .ld_A_atDE)
    (rra : P .rra)
    (ld_atHLinc_A : P .ld_atHLinc_A)
    (daa : P .daa)
    (ld_A_atHLinc : P .ld_A_atHLinc)
    (cpl : P .cpl)
    (ld_atHLdec_A : P .ld_atHLdec_A)
    (scf : P .scf)
    (ld_A_atHLdec : P .ld_A_atHLdec)
    (ccf : P .ccf)
    (halt : P .halt)
    (ret : P .ret)
    (prefixCB : P .prefixCB)
    (reti : P .reti)
    (ld_atC_A : P .ld_atC_A)
    (jp_HL : P .jp_HL)
    (ld_A_atC : P .ld_A_atC)
    (di : P .di)
    (ld_SP_HL : P .ld_SP_HL)
    (ei : P .ei)
    (i : Instr) : P i :=
  match i with
  | .ld_BC_nn nn => ldReg16Imm .bc nn
  | .ld_B_n n => ldRegImm .b n
  | .ld_atNN_SP nn => ld_atNN_SP nn
  | .ld_C_n n => ldRegImm .c n
  | .stop ignored => stop ignored
  | .ld_DE_nn nn => ldReg16Imm .de nn
  | .ld_D_n n => ldRegImm .d n
  | .jr_e e => jr_e e
  | .ld_E_n n => ldRegImm .e n
  | .jr_NZ_e e => jrIf .nz e
  | .ld_HL_nn nn => ldReg16Imm .hl nn
  | .ld_H_n n => ldRegImm .h n
  | .jr_Z_e e => jrIf .z e
  | .ld_L_n n => ldRegImm .l n
  | .jr_NC_e e => jrIf .nc e
  | .ld_SP_nn nn => ldReg16Imm .sp nn
  | .ld_atHL_n n => ld_atHL_n n
  | .jr_C_e e => jrIf .c e
  | .ld_A_n n => ldRegImm .a n
  | .jp_NZ_nn nn => jpIf .nz nn
  | .jp_nn nn => jp_nn nn
  | .call_NZ_nn nn => callIf .nz nn
  | .add_A_n n => aluImm .add n
  | .jp_Z_nn nn => jpIf .z nn
  | .call_Z_nn nn => callIf .z nn
  | .call_nn nn => call_nn nn
  | .adc_A_n n => aluImm .adc n
  | .jp_NC_nn nn => jpIf .nc nn
  | .unmapped op => unmapped op
  | .call_NC_nn nn => callIf .nc nn
  | .sub_n n => aluImm .sub n
  | .jp_C_nn nn => jpIf .c nn
  | .call_C_nn nn => callIf .c nn
  | .sbc_A_n n => aluImm .sbc n
  | .ldh_atN_A n => ldh_atN_A n
  | .and_n n => aluImm .and n
  | .add_SP_e e => add_SP_e e
  | .ld_atNN_A nn => ld_atNN_A nn
  | .xor_n n => aluImm .xor n
  | .ldh_A_atN n => ldh_A_atN n
  | .or_n n => aluImm .or n
  | .ld_HL_SPe e => ld_HL_SPe e
  | .ld_A_atNN nn => ld_A_atNN nn
  | .cp_n n => aluImm .cp n
  | .nop => nop
  | .ld_atBC_A => ld_atBC_A
  | .inc_BC => inc16 .bc
  | .inc_B => inc8 (.reg .b)
  | .dec_B => dec8 (.reg .b)
  | .rlca => rlca
  | .add_HL_BC => addHl .bc
  | .ld_A_atBC => ld_A_atBC
  | .dec_BC => dec16 .bc
  | .inc_C => inc8 (.reg .c)
  | .dec_C => dec8 (.reg .c)
  | .rrca => rrca
  | .ld_atDE_A => ld_atDE_A
  | .inc_DE => inc16 .de
  | .inc_D => inc8 (.reg .d)
  | .dec_D => dec8 (.reg .d)
  | .rla => rla
  | .add_HL_DE => addHl .de
  | .ld_A_atDE => ld_A_atDE
  | .dec_DE => dec16 .de
  | .inc_E => inc8 (.reg .e)
  | .dec_E => dec8 (.reg .e)
  | .rra => rra
  | .ld_atHLinc_A => ld_atHLinc_A
  | .inc_HL => inc16 .hl
  | .inc_H => inc8 (.reg .h)
  | .dec_H => dec8 (.reg .h)
  | .daa => daa
  | .add_HL_HL => addHl .hl
  | .ld_A_atHLinc => ld_A_atHLinc
  | .dec_HL => dec16 .hl
  | .inc_L => inc8 (.reg .l)
  | .dec_L => dec8 (.reg .l)
  | .cpl => cpl
  | .ld_atHLdec_A => ld_atHLdec_A
  | .inc_SP => inc16 .sp
  | .inc_atHL => inc8 .atHL
  | .dec_atHL => dec8 .atHL
  | .scf => scf
  | .add_HL_SP => addHl .sp
  | .ld_A_atHLdec => ld_A_atHLdec
  | .dec_SP => dec16 .sp
  | .inc_A => inc8 (.reg .a)
  | .dec_A => dec8 (.reg .a)
  | .ccf => ccf
  | .ld_B_B => ldRegReg .b .b
  | .ld_B_C => ldRegReg .b .c
  | .ld_B_D => ldRegReg .b .d
  | .ld_B_E => ldRegReg .b .e
  | .ld_B_H => ldRegReg .b .h
  | .ld_B_L => ldRegReg .b .l
  | .ld_B_atHL => ldRegMem .b
  | .ld_B_A => ldRegReg .b .a
  | .ld_C_B => ldRegReg .c .b
  | .ld_C_C => ldRegReg .c .c
  | .ld_C_D => ldRegReg .c .d
  | .ld_C_E => ldRegReg .c .e
  | .ld_C_H => ldRegReg .c .h
  | .ld_C_L => ldRegReg .c .l
  | .ld_C_atHL => ldRegMem .c
  | .ld_C_A => ldRegReg .c .a
  | .ld_D_B => ldRegReg .d .b
  | .ld_D_C => ldRegReg .d .c
  | .ld_D_D => ldRegReg .d .d
  | .ld_D_E => ldRegReg .d .e
  | .ld_D_H => ldRegReg .d .h
  | .ld_D_L => ldRegReg .d .l
  | .ld_D_atHL => ldRegMem .d
  | .ld_D_A => ldRegReg .d .a
  | .ld_E_B => ldRegReg .e .b
  | .ld_E_C => ldRegReg .e .c
  | .ld_E_D => ldRegReg .e .d
  | .ld_E_E => ldRegReg .e .e
  | .ld_E_H => ldRegReg .e .h
  | .ld_E_L => ldRegReg .e .l
  | .ld_E_atHL => ldRegMem .e
  | .ld_E_A => ldRegReg .e .a
  | .ld_H_B => ldRegReg .h .b
  | .ld_H_C => ldRegReg .h .c
  | .ld_H_D => ldRegReg .h .d
  | .ld_H_E => ldRegReg .h .e
  | .ld_H_H => ldRegReg .h .h
  | .ld_H_L => ldRegReg .h .l
  | .ld_H_atHL => ldRegMem .h
  | .ld_H_A => ldRegReg .h .a
  | .ld_L_B => ldRegReg .l .b
  | .ld_L_C => ldRegReg .l .c
  | .ld_L_D => ldRegReg .l .d
  | .ld_L_E => ldRegReg .l .e
  | .ld_L_H => ldRegReg .l .h
  | .ld_L_L => ldRegReg .l .l
  | .ld_L_atHL => ldRegMem .l
  | .ld_L_A => ldRegReg .l .a
  | .ld_atHL_B => ldMemReg .b
  | .ld_atHL_C => ldMemReg .c
  | .ld_atHL_D => ldMemReg .d
  | .ld_atHL_E => ldMemReg .e
  | .ld_atHL_H => ldMemReg .h
  | .ld_atHL_L => ldMemReg .l
  | .halt => halt
  | .ld_atHL_A => ldMemReg .a
  | .ld_A_B => ldRegReg .a .b
  | .ld_A_C => ldRegReg .a .c
  | .ld_A_D => ldRegReg .a .d
  | .ld_A_E => ldRegReg .a .e
  | .ld_A_H => ldRegReg .a .h
  | .ld_A_L => ldRegReg .a .l
  | .ld_A_atHL => ldRegMem .a
  | .ld_A_A => ldRegReg .a .a
  | .add_A_B => alu .add (.reg .b)
  | .add_A_C => alu .add (.reg .c)
  | .add_A_D => alu .add (.reg .d)
  | .add_A_E => alu .add (.reg .e)
  | .add_A_H => alu .add (.reg .h)
  | .add_A_L => alu .add (.reg .l)
  | .add_A_atHL => alu .add .atHL
  | .add_A_A => alu .add (.reg .a)
  | .adc_A_B => alu .adc (.reg .b)
  | .adc_A_C => alu .adc (.reg .c)
  | .adc_A_D => alu .adc (.reg .d)
  | .adc_A_E => alu .adc (.reg .e)
  | .adc_A_H => alu .adc (.reg .h)
  | .adc_A_L => alu .adc (.reg .l)
  | .adc_A_atHL => alu .adc .atHL
  | .adc_A_A => alu .adc (.reg .a)
  | .sub_B => alu .sub (.reg .b)
  | .sub_C => alu .sub (.reg .c)
  | .sub_D => alu .sub (.reg .d)
  | .sub_E => alu .sub (.reg .e)
  | .sub_H => alu .sub (.reg .h)
  | .sub_L => alu .sub (.reg .l)
  | .sub_atHL => alu .sub .atHL
  | .sub_A => alu .sub (.reg .a)
  | .sbc_A_B => alu .sbc (.reg .b)
  | .sbc_A_C => alu .sbc (.reg .c)
  | .sbc_A_D => alu .sbc (.reg .d)
  | .sbc_A_E => alu .sbc (.reg .e)
  | .sbc_A_H => alu .sbc (.reg .h)
  | .sbc_A_L => alu .sbc (.reg .l)
  | .sbc_A_atHL => alu .sbc .atHL
  | .sbc_A_A => alu .sbc (.reg .a)
  | .and_B => alu .and (.reg .b)
  | .and_C => alu .and (.reg .c)
  | .and_D => alu .and (.reg .d)
  | .and_E => alu .and (.reg .e)
  | .and_H => alu .and (.reg .h)
  | .and_L => alu .and (.reg .l)
  | .and_atHL => alu .and .atHL
  | .and_A => alu .and (.reg .a)
  | .xor_B => alu .xor (.reg .b)
  | .xor_C => alu .xor (.reg .c)
  | .xor_D => alu .xor (.reg .d)
  | .xor_E => alu .xor (.reg .e)
  | .xor_H => alu .xor (.reg .h)
  | .xor_L => alu .xor (.reg .l)
  | .xor_atHL => alu .xor .atHL
  | .xor_A => alu .xor (.reg .a)
  | .or_B => alu .or (.reg .b)
  | .or_C => alu .or (.reg .c)
  | .or_D => alu .or (.reg .d)
  | .or_E => alu .or (.reg .e)
  | .or_H => alu .or (.reg .h)
  | .or_L => alu .or (.reg .l)
  | .or_atHL => alu .or .atHL
  | .or_A => alu .or (.reg .a)
  | .cp_B => alu .cp (.reg .b)
  | .cp_C => alu .cp (.reg .c)
  | .cp_D => alu .cp (.reg .d)
  | .cp_E => alu .cp (.reg .e)
  | .cp_H => alu .cp (.reg .h)
  | .cp_L => alu .cp (.reg .l)
  | .cp_atHL => alu .cp .atHL
  | .cp_A => alu .cp (.reg .a)
  | .ret_NZ => retIf .nz
  | .pop_BC => pop .bc
  | .push_BC => push .bc
  | .rst_00 => rst 0
  | .ret_Z => retIf .z
  | .ret => ret
  | .prefixCB => prefixCB
  | .rst_08 => rst 1
  | .ret_NC => retIf .nc
  | .pop_DE => pop .de
  | .push_DE => push .de
  | .rst_10 => rst 2
  | .ret_C => retIf .c
  | .reti => reti
  | .rst_18 => rst 3
  | .pop_HL => pop .hl
  | .ld_atC_A => ld_atC_A
  | .push_HL => push .hl
  | .rst_20 => rst 4
  | .jp_HL => jp_HL
  | .rst_28 => rst 5
  | .pop_AF => pop .af
  | .ld_A_atC => ld_A_atC
  | .di => di
  | .push_AF => push .af
  | .rst_30 => rst 6
  | .ld_SP_HL => ld_SP_HL
  | .ei => ei
  | .rst_38 => rst 7
  | .rlc_B => shift .rlc (.reg .b)
  | .rlc_C => shift .rlc (.reg .c)
  | .rlc_D => shift .rlc (.reg .d)
  | .rlc_E => shift .rlc (.reg .e)
  | .rlc_H => shift .rlc (.reg .h)
  | .rlc_L => shift .rlc (.reg .l)
  | .rlc_atHL => shift .rlc .atHL
  | .rlc_A => shift .rlc (.reg .a)
  | .rrc_B => shift .rrc (.reg .b)
  | .rrc_C => shift .rrc (.reg .c)
  | .rrc_D => shift .rrc (.reg .d)
  | .rrc_E => shift .rrc (.reg .e)
  | .rrc_H => shift .rrc (.reg .h)
  | .rrc_L => shift .rrc (.reg .l)
  | .rrc_atHL => shift .rrc .atHL
  | .rrc_A => shift .rrc (.reg .a)
  | .rl_B => shift .rl (.reg .b)
  | .rl_C => shift .rl (.reg .c)
  | .rl_D => shift .rl (.reg .d)
  | .rl_E => shift .rl (.reg .e)
  | .rl_H => shift .rl (.reg .h)
  | .rl_L => shift .rl (.reg .l)
  | .rl_atHL => shift .rl .atHL
  | .rl_A => shift .rl (.reg .a)
  | .rr_B => shift .rr (.reg .b)
  | .rr_C => shift .rr (.reg .c)
  | .rr_D => shift .rr (.reg .d)
  | .rr_E => shift .rr (.reg .e)
  | .rr_H => shift .rr (.reg .h)
  | .rr_L => shift .rr (.reg .l)
  | .rr_atHL => shift .rr .atHL
  | .rr_A => shift .rr (.reg .a)
  | .sla_B => shift .sla (.reg .b)
  | .sla_C => shift .sla (.reg .c)
  | .sla_D => shift .sla (.reg .d)
  | .sla_E => shift .sla (.reg .e)
  | .sla_H => shift .sla (.reg .h)
  | .sla_L => shift .sla (.reg .l)
  | .sla_atHL => shift .sla .atHL
  | .sla_A => shift .sla (.reg .a)
  | .sra_B => shift .sra (.reg .b)
  | .sra_C => shift .sra (.reg .c)
  | .sra_D => shift .sra (.reg .d)
  | .sra_E => shift .sra (.reg .e)
  | .sra_H => shift .sra (.reg .h)
  | .sra_L => shift .sra (.reg .l)
  | .sra_atHL => shift .sra .atHL
  | .sra_A => shift .sra (.reg .a)
  | .swap_B => shift .swap (.reg .b)
  | .swap_C => shift .swap (.reg .c)
  | .swap_D => shift .swap (.reg .d)
  | .swap_E => shift .swap (.reg .e)
  | .swap_H => shift .swap (.reg .h)
  | .swap_L => shift .swap (.reg .l)
  | .swap_atHL => shift .swap .atHL
  | .swap_A => shift .swap (.reg .a)
  | .srl_B => shift .srl (.reg .b)
  | .srl_C => shift .srl (.reg .c)
  | .srl_D => shift .srl (.reg .d)
  | .srl_E => shift .srl (.reg .e)
  | .srl_H => shift .srl (.reg .h)
  | .srl_L => shift .srl (.reg .l)
  | .srl_atHL => shift .srl .atHL
  | .srl_A => shift .srl (.reg .a)
  | .bit_0_B => bit 0 (.reg .b)
  | .bit_0_C => bit 0 (.reg .c)
  | .bit_0_D => bit 0 (.reg .d)
  | .bit_0_E => bit 0 (.reg .e)
  | .bit_0_H => bit 0 (.reg .h)
  | .bit_0_L => bit 0 (.reg .l)
  | .bit_0_atHL => bit 0 .atHL
  | .bit_0_A => bit 0 (.reg .a)
  | .bit_1_B => bit 1 (.reg .b)
  | .bit_1_C => bit 1 (.reg .c)
  | .bit_1_D => bit 1 (.reg .d)
  | .bit_1_E => bit 1 (.reg .e)
  | .bit_1_H => bit 1 (.reg .h)
  | .bit_1_L => bit 1 (.reg .l)
  | .bit_1_atHL => bit 1 .atHL
  | .bit_1_A => bit 1 (.reg .a)
  | .bit_2_B => bit 2 (.reg .b)
  | .bit_2_C => bit 2 (.reg .c)
  | .bit_2_D => bit 2 (.reg .d)
  | .bit_2_E => bit 2 (.reg .e)
  | .bit_2_H => bit 2 (.reg .h)
  | .bit_2_L => bit 2 (.reg .l)
  | .bit_2_atHL => bit 2 .atHL
  | .bit_2_A => bit 2 (.reg .a)
  | .bit_3_B => bit 3 (.reg .b)
  | .bit_3_C => bit 3 (.reg .c)
  | .bit_3_D => bit 3 (.reg .d)
  | .bit_3_E => bit 3 (.reg .e)
  | .bit_3_H => bit 3 (.reg .h)
  | .bit_3_L => bit 3 (.reg .l)
  | .bit_3_atHL => bit 3 .atHL
  | .bit_3_A => bit 3 (.reg .a)
  | .bit_4_B => bit 4 (.reg .b)
  | .bit_4_C => bit 4 (.reg .c)
  | .bit_4_D => bit 4 (.reg .d)
  | .bit_4_E => bit 4 (.reg .e)
  | .bit_4_H => bit 4 (.reg .h)
  | .bit_4_L => bit 4 (.reg .l)
  | .bit_4_atHL => bit 4 .atHL
  | .bit_4_A => bit 4 (.reg .a)
  | .bit_5_B => bit 5 (.reg .b)
  | .bit_5_C => bit 5 (.reg .c)
  | .bit_5_D => bit 5 (.reg .d)
  | .bit_5_E => bit 5 (.reg .e)
  | .bit_5_H => bit 5 (.reg .h)
  | .bit_5_L => bit 5 (.reg .l)
  | .bit_5_atHL => bit 5 .atHL
  | .bit_5_A => bit 5 (.reg .a)
  | .bit_6_B => bit 6 (.reg .b)
  | .bit_6_C => bit 6 (.reg .c)
  | .bit_6_D => bit 6 (.reg .d)
  | .bit_6_E => bit 6 (.reg .e)
  | .bit_6_H => bit 6 (.reg .h)
  | .bit_6_L => bit 6 (.reg .l)
  | .bit_6_atHL => bit 6 .atHL
  | .bit_6_A => bit 6 (.reg .a)
  | .bit_7_B => bit 7 (.reg .b)
  | .bit_7_C => bit 7 (.reg .c)
  | .bit_7_D => bit 7 (.reg .d)
  | .bit_7_E => bit 7 (.reg .e)
  | .bit_7_H => bit 7 (.reg .h)
  | .bit_7_L => bit 7 (.reg .l)
  | .bit_7_atHL => bit 7 .atHL
  | .bit_7_A => bit 7 (.reg .a)
  | .res_0_B => res 0 (.reg .b)
  | .res_0_C => res 0 (.reg .c)
  | .res_0_D => res 0 (.reg .d)
  | .res_0_E => res 0 (.reg .e)
  | .res_0_H => res 0 (.reg .h)
  | .res_0_L => res 0 (.reg .l)
  | .res_0_atHL => res 0 .atHL
  | .res_0_A => res 0 (.reg .a)
  | .res_1_B => res 1 (.reg .b)
  | .res_1_C => res 1 (.reg .c)
  | .res_1_D => res 1 (.reg .d)
  | .res_1_E => res 1 (.reg .e)
  | .res_1_H => res 1 (.reg .h)
  | .res_1_L => res 1 (.reg .l)
  | .res_1_atHL => res 1 .atHL
  | .res_1_A => res 1 (.reg .a)
  | .res_2_B => res 2 (.reg .b)
  | .res_2_C => res 2 (.reg .c)
  | .res_2_D => res 2 (.reg .d)
  | .res_2_E => res 2 (.reg .e)
  | .res_2_H => res 2 (.reg .h)
  | .res_2_L => res 2 (.reg .l)
  | .res_2_atHL => res 2 .atHL
  | .res_2_A => res 2 (.reg .a)
  | .res_3_B => res 3 (.reg .b)
  | .res_3_C => res 3 (.reg .c)
  | .res_3_D => res 3 (.reg .d)
  | .res_3_E => res 3 (.reg .e)
  | .res_3_H => res 3 (.reg .h)
  | .res_3_L => res 3 (.reg .l)
  | .res_3_atHL => res 3 .atHL
  | .res_3_A => res 3 (.reg .a)
  | .res_4_B => res 4 (.reg .b)
  | .res_4_C => res 4 (.reg .c)
  | .res_4_D => res 4 (.reg .d)
  | .res_4_E => res 4 (.reg .e)
  | .res_4_H => res 4 (.reg .h)
  | .res_4_L => res 4 (.reg .l)
  | .res_4_atHL => res 4 .atHL
  | .res_4_A => res 4 (.reg .a)
  | .res_5_B => res 5 (.reg .b)
  | .res_5_C => res 5 (.reg .c)
  | .res_5_D => res 5 (.reg .d)
  | .res_5_E => res 5 (.reg .e)
  | .res_5_H => res 5 (.reg .h)
  | .res_5_L => res 5 (.reg .l)
  | .res_5_atHL => res 5 .atHL
  | .res_5_A => res 5 (.reg .a)
  | .res_6_B => res 6 (.reg .b)
  | .res_6_C => res 6 (.reg .c)
  | .res_6_D => res 6 (.reg .d)
  | .res_6_E => res 6 (.reg .e)
  | .res_6_H => res 6 (.reg .h)
  | .res_6_L => res 6 (.reg .l)
  | .res_6_atHL => res 6 .atHL
  | .res_6_A => res 6 (.reg .a)
  | .res_7_B => res 7 (.reg .b)
  | .res_7_C => res 7 (.reg .c)
  | .res_7_D => res 7 (.reg .d)
  | .res_7_E => res 7 (.reg .e)
  | .res_7_H => res 7 (.reg .h)
  | .res_7_L => res 7 (.reg .l)
  | .res_7_atHL => res 7 .atHL
  | .res_7_A => res 7 (.reg .a)
  | .set_0_B => set 0 (.reg .b)
  | .set_0_C => set 0 (.reg .c)
  | .set_0_D => set 0 (.reg .d)
  | .set_0_E => set 0 (.reg .e)
  | .set_0_H => set 0 (.reg .h)
  | .set_0_L => set 0 (.reg .l)
  | .set_0_atHL => set 0 .atHL
  | .set_0_A => set 0 (.reg .a)
  | .set_1_B => set 1 (.reg .b)
  | .set_1_C => set 1 (.reg .c)
  | .set_1_D => set 1 (.reg .d)
  | .set_1_E => set 1 (.reg .e)
  | .set_1_H => set 1 (.reg .h)
  | .set_1_L => set 1 (.reg .l)
  | .set_1_atHL => set 1 .atHL
  | .set_1_A => set 1 (.reg .a)
  | .set_2_B => set 2 (.reg .b)
  | .set_2_C => set 2 (.reg .c)
  | .set_2_D => set 2 (.reg .d)
  | .set_2_E => set 2 (.reg .e)
  | .set_2_H => set 2 (.reg .h)
  | .set_2_L => set 2 (.reg .l)
  | .set_2_atHL => set 2 .atHL
  | .set_2_A => set 2 (.reg .a)
  | .set_3_B => set 3 (.reg .b)
  | .set_3_C => set 3 (.reg .c)
  | .set_3_D => set 3 (.reg .d)
  | .set_3_E => set 3 (.reg .e)
  | .set_3_H => set 3 (.reg .h)
  | .set_3_L => set 3 (.reg .l)
  | .set_3_atHL => set 3 .atHL
  | .set_3_A => set 3 (.reg .a)
  | .set_4_B => set 4 (.reg .b)
  | .set_4_C => set 4 (.reg .c)
  | .set_4_D => set 4 (.reg .d)
  | .set_4_E => set 4 (.reg .e)
  | .set_4_H => set 4 (.reg .h)
  | .set_4_L => set 4 (.reg .l)
  | .set_4_atHL => set 4 .atHL
  | .set_4_A => set 4 (.reg .a)
  | .set_5_B => set 5 (.reg .b)
  | .set_5_C => set 5 (.reg .c)
  | .set_5_D => set 5 (.reg .d)
  | .set_5_E => set 5 (.reg .e)
  | .set_5_H => set 5 (.reg .h)
  | .set_5_L => set 5 (.reg .l)
  | .set_5_atHL => set 5 .atHL
  | .set_5_A => set 5 (.reg .a)
  | .set_6_B => set 6 (.reg .b)
  | .set_6_C => set 6 (.reg .c)
  | .set_6_D => set 6 (.reg .d)
  | .set_6_E => set 6 (.reg .e)
  | .set_6_H => set 6 (.reg .h)
  | .set_6_L => set 6 (.reg .l)
  | .set_6_atHL => set 6 .atHL
  | .set_6_A => set 6 (.reg .a)
  | .set_7_B => set 7 (.reg .b)
  | .set_7_C => set 7 (.reg .c)
  | .set_7_D => set 7 (.reg .d)
  | .set_7_E => set 7 (.reg .e)
  | .set_7_H => set 7 (.reg .h)
  | .set_7_L => set 7 (.reg .l)
  | .set_7_atHL => set 7 .atHL
  | .set_7_A => set 7 (.reg .a)

end Sys2Proof.Machine
end

