-- ==== Sys2Proof/Laws/State.lean ====
section
/-! SUPPORT. What each named update of the state leaves alone, one lemma per field per update, and what it writes; no
later proof unfolds a record update. -/

namespace Sys2Proof.Machine

/-! ### `setPc` -/

@[simp] theorem setPc_a (s : State) (v : Word) : (s.setPc v).a = s.a := rfl
@[simp] theorem setPc_b (s : State) (v : Word) : (s.setPc v).b = s.b := rfl
@[simp] theorem setPc_c (s : State) (v : Word) : (s.setPc v).c = s.c := rfl
@[simp] theorem setPc_d (s : State) (v : Word) : (s.setPc v).d = s.d := rfl
@[simp] theorem setPc_e (s : State) (v : Word) : (s.setPc v).e = s.e := rfl
@[simp] theorem setPc_f (s : State) (v : Word) : (s.setPc v).f = s.f := rfl
@[simp] theorem setPc_h (s : State) (v : Word) : (s.setPc v).h = s.h := rfl
@[simp] theorem setPc_l (s : State) (v : Word) : (s.setPc v).l = s.l := rfl
@[simp] theorem setPc_sp (s : State) (v : Word) : (s.setPc v).sp = s.sp := rfl
@[simp] theorem setPc_mode (s : State) (v : Word) : (s.setPc v).mode = s.mode := rfl
@[simp] theorem setPc_ime (s : State) (v : Word) : (s.setPc v).ime = s.ime := rfl
@[simp] theorem setPc_imePending (s : State) (v : Word) : (s.setPc v).imePending = s.imePending := rfl
@[simp] theorem setPc_haltCause (s : State) (v : Word) : (s.setPc v).haltCause = s.haltCause := rfl
@[simp] theorem setPc_fault (s : State) (v : Word) : (s.setPc v).fault = s.fault := rfl
@[simp] theorem setPc_mem (s : State) (v : Word) : (s.setPc v).mem = s.mem := rfl
@[simp] theorem setPc_romPhase (s : State) (v : Word) : (s.setPc v).romPhase = s.romPhase := rfl
@[simp] theorem setPc_config (s : State) (v : Word) : (s.setPc v).config = s.config := rfl

/-! ### `advance` -/

@[simp] theorem advance_a (s : State) (n : Nat) : (s.advance n).a = s.a := rfl
@[simp] theorem advance_b (s : State) (n : Nat) : (s.advance n).b = s.b := rfl
@[simp] theorem advance_c (s : State) (n : Nat) : (s.advance n).c = s.c := rfl
@[simp] theorem advance_d (s : State) (n : Nat) : (s.advance n).d = s.d := rfl
@[simp] theorem advance_e (s : State) (n : Nat) : (s.advance n).e = s.e := rfl
@[simp] theorem advance_f (s : State) (n : Nat) : (s.advance n).f = s.f := rfl
@[simp] theorem advance_h (s : State) (n : Nat) : (s.advance n).h = s.h := rfl
@[simp] theorem advance_l (s : State) (n : Nat) : (s.advance n).l = s.l := rfl
@[simp] theorem advance_sp (s : State) (n : Nat) : (s.advance n).sp = s.sp := rfl
@[simp] theorem advance_mode (s : State) (n : Nat) : (s.advance n).mode = s.mode := rfl
@[simp] theorem advance_ime (s : State) (n : Nat) : (s.advance n).ime = s.ime := rfl
@[simp] theorem advance_imePending (s : State) (n : Nat) : (s.advance n).imePending = s.imePending := rfl
@[simp] theorem advance_haltCause (s : State) (n : Nat) : (s.advance n).haltCause = s.haltCause := rfl
@[simp] theorem advance_fault (s : State) (n : Nat) : (s.advance n).fault = s.fault := rfl
@[simp] theorem advance_mem (s : State) (n : Nat) : (s.advance n).mem = s.mem := rfl
@[simp] theorem advance_romPhase (s : State) (n : Nat) : (s.advance n).romPhase = s.romPhase := rfl
@[simp] theorem advance_config (s : State) (n : Nat) : (s.advance n).config = s.config := rfl

/-! ### `setSp` -/

@[simp] theorem setSp_a (s : State) (v : Word) : (s.setSp v).a = s.a := rfl
@[simp] theorem setSp_b (s : State) (v : Word) : (s.setSp v).b = s.b := rfl
@[simp] theorem setSp_c (s : State) (v : Word) : (s.setSp v).c = s.c := rfl
@[simp] theorem setSp_d (s : State) (v : Word) : (s.setSp v).d = s.d := rfl
@[simp] theorem setSp_e (s : State) (v : Word) : (s.setSp v).e = s.e := rfl
@[simp] theorem setSp_f (s : State) (v : Word) : (s.setSp v).f = s.f := rfl
@[simp] theorem setSp_h (s : State) (v : Word) : (s.setSp v).h = s.h := rfl
@[simp] theorem setSp_l (s : State) (v : Word) : (s.setSp v).l = s.l := rfl
@[simp] theorem setSp_pc (s : State) (v : Word) : (s.setSp v).pc = s.pc := rfl
@[simp] theorem setSp_mode (s : State) (v : Word) : (s.setSp v).mode = s.mode := rfl
@[simp] theorem setSp_ime (s : State) (v : Word) : (s.setSp v).ime = s.ime := rfl
@[simp] theorem setSp_imePending (s : State) (v : Word) : (s.setSp v).imePending = s.imePending := rfl
@[simp] theorem setSp_haltCause (s : State) (v : Word) : (s.setSp v).haltCause = s.haltCause := rfl
@[simp] theorem setSp_fault (s : State) (v : Word) : (s.setSp v).fault = s.fault := rfl
@[simp] theorem setSp_mem (s : State) (v : Word) : (s.setSp v).mem = s.mem := rfl
@[simp] theorem setSp_romPhase (s : State) (v : Word) : (s.setSp v).romPhase = s.romPhase := rfl
@[simp] theorem setSp_config (s : State) (v : Word) : (s.setSp v).config = s.config := rfl

/-! ### `popDone` -/

@[simp] theorem popDone_a (s : State) : (s.popDone).a = s.a := rfl
@[simp] theorem popDone_b (s : State) : (s.popDone).b = s.b := rfl
@[simp] theorem popDone_c (s : State) : (s.popDone).c = s.c := rfl
@[simp] theorem popDone_d (s : State) : (s.popDone).d = s.d := rfl
@[simp] theorem popDone_e (s : State) : (s.popDone).e = s.e := rfl
@[simp] theorem popDone_f (s : State) : (s.popDone).f = s.f := rfl
@[simp] theorem popDone_h (s : State) : (s.popDone).h = s.h := rfl
@[simp] theorem popDone_l (s : State) : (s.popDone).l = s.l := rfl
@[simp] theorem popDone_pc (s : State) : (s.popDone).pc = s.pc := rfl
@[simp] theorem popDone_mode (s : State) : (s.popDone).mode = s.mode := rfl
@[simp] theorem popDone_ime (s : State) : (s.popDone).ime = s.ime := rfl
@[simp] theorem popDone_imePending (s : State) : (s.popDone).imePending = s.imePending := rfl
@[simp] theorem popDone_haltCause (s : State) : (s.popDone).haltCause = s.haltCause := rfl
@[simp] theorem popDone_fault (s : State) : (s.popDone).fault = s.fault := rfl
@[simp] theorem popDone_mem (s : State) : (s.popDone).mem = s.mem := rfl
@[simp] theorem popDone_romPhase (s : State) : (s.popDone).romPhase = s.romPhase := rfl
@[simp] theorem popDone_config (s : State) : (s.popDone).config = s.config := rfl

/-! ### `setIme` -/

@[simp] theorem setIme_a (s : State) (enable pending : Bool) : (s.setIme enable pending).a = s.a := rfl
@[simp] theorem setIme_b (s : State) (enable pending : Bool) : (s.setIme enable pending).b = s.b := rfl
@[simp] theorem setIme_c (s : State) (enable pending : Bool) : (s.setIme enable pending).c = s.c := rfl
@[simp] theorem setIme_d (s : State) (enable pending : Bool) : (s.setIme enable pending).d = s.d := rfl
@[simp] theorem setIme_e (s : State) (enable pending : Bool) : (s.setIme enable pending).e = s.e := rfl
@[simp] theorem setIme_f (s : State) (enable pending : Bool) : (s.setIme enable pending).f = s.f := rfl
@[simp] theorem setIme_h (s : State) (enable pending : Bool) : (s.setIme enable pending).h = s.h := rfl
@[simp] theorem setIme_l (s : State) (enable pending : Bool) : (s.setIme enable pending).l = s.l := rfl
@[simp] theorem setIme_pc (s : State) (enable pending : Bool) : (s.setIme enable pending).pc = s.pc := rfl
@[simp] theorem setIme_sp (s : State) (enable pending : Bool) : (s.setIme enable pending).sp = s.sp := rfl
@[simp] theorem setIme_mode (s : State) (enable pending : Bool) : (s.setIme enable pending).mode = s.mode := rfl
@[simp] theorem setIme_haltCause (s : State) (enable pending : Bool) : (s.setIme enable pending).haltCause = s.haltCause := rfl
@[simp] theorem setIme_fault (s : State) (enable pending : Bool) : (s.setIme enable pending).fault = s.fault := rfl
@[simp] theorem setIme_mem (s : State) (enable pending : Bool) : (s.setIme enable pending).mem = s.mem := rfl
@[simp] theorem setIme_romPhase (s : State) (enable pending : Bool) : (s.setIme enable pending).romPhase = s.romPhase := rfl
@[simp] theorem setIme_config (s : State) (enable pending : Bool) : (s.setIme enable pending).config = s.config := rfl

/-! ### `enterHalted` -/

@[simp] theorem enterHalted_a (s : State) (x : HaltCause) : (s.enterHalted x).a = s.a := rfl
@[simp] theorem enterHalted_b (s : State) (x : HaltCause) : (s.enterHalted x).b = s.b := rfl
@[simp] theorem enterHalted_c (s : State) (x : HaltCause) : (s.enterHalted x).c = s.c := rfl
@[simp] theorem enterHalted_d (s : State) (x : HaltCause) : (s.enterHalted x).d = s.d := rfl
@[simp] theorem enterHalted_e (s : State) (x : HaltCause) : (s.enterHalted x).e = s.e := rfl
@[simp] theorem enterHalted_f (s : State) (x : HaltCause) : (s.enterHalted x).f = s.f := rfl
@[simp] theorem enterHalted_h (s : State) (x : HaltCause) : (s.enterHalted x).h = s.h := rfl
@[simp] theorem enterHalted_l (s : State) (x : HaltCause) : (s.enterHalted x).l = s.l := rfl
@[simp] theorem enterHalted_pc (s : State) (x : HaltCause) : (s.enterHalted x).pc = s.pc := rfl
@[simp] theorem enterHalted_sp (s : State) (x : HaltCause) : (s.enterHalted x).sp = s.sp := rfl
@[simp] theorem enterHalted_ime (s : State) (x : HaltCause) : (s.enterHalted x).ime = s.ime := rfl
@[simp] theorem enterHalted_imePending (s : State) (x : HaltCause) : (s.enterHalted x).imePending = s.imePending := rfl
@[simp] theorem enterHalted_fault (s : State) (x : HaltCause) : (s.enterHalted x).fault = s.fault := rfl
@[simp] theorem enterHalted_mem (s : State) (x : HaltCause) : (s.enterHalted x).mem = s.mem := rfl
@[simp] theorem enterHalted_romPhase (s : State) (x : HaltCause) : (s.enterHalted x).romPhase = s.romPhase := rfl
@[simp] theorem enterHalted_config (s : State) (x : HaltCause) : (s.enterHalted x).config = s.config := rfl

/-! ### `raiseDecodeError` -/

@[simp] theorem raiseDecodeError_a (s : State) (x : List Byte) : (s.raiseDecodeError x).a = s.a := rfl
@[simp] theorem raiseDecodeError_b (s : State) (x : List Byte) : (s.raiseDecodeError x).b = s.b := rfl
@[simp] theorem raiseDecodeError_c (s : State) (x : List Byte) : (s.raiseDecodeError x).c = s.c := rfl
@[simp] theorem raiseDecodeError_d (s : State) (x : List Byte) : (s.raiseDecodeError x).d = s.d := rfl
@[simp] theorem raiseDecodeError_e (s : State) (x : List Byte) : (s.raiseDecodeError x).e = s.e := rfl
@[simp] theorem raiseDecodeError_f (s : State) (x : List Byte) : (s.raiseDecodeError x).f = s.f := rfl
@[simp] theorem raiseDecodeError_h (s : State) (x : List Byte) : (s.raiseDecodeError x).h = s.h := rfl
@[simp] theorem raiseDecodeError_l (s : State) (x : List Byte) : (s.raiseDecodeError x).l = s.l := rfl
@[simp] theorem raiseDecodeError_pc (s : State) (x : List Byte) : (s.raiseDecodeError x).pc = s.pc := rfl
@[simp] theorem raiseDecodeError_sp (s : State) (x : List Byte) : (s.raiseDecodeError x).sp = s.sp := rfl
@[simp] theorem raiseDecodeError_ime (s : State) (x : List Byte) : (s.raiseDecodeError x).ime = s.ime := rfl
@[simp] theorem raiseDecodeError_imePending (s : State) (x : List Byte) : (s.raiseDecodeError x).imePending = s.imePending := rfl
@[simp] theorem raiseDecodeError_haltCause (s : State) (x : List Byte) : (s.raiseDecodeError x).haltCause = s.haltCause := rfl
@[simp] theorem raiseDecodeError_mem (s : State) (x : List Byte) : (s.raiseDecodeError x).mem = s.mem := rfl
@[simp] theorem raiseDecodeError_romPhase (s : State) (x : List Byte) : (s.raiseDecodeError x).romPhase = s.romPhase := rfl
@[simp] theorem raiseDecodeError_config (s : State) (x : List Byte) : (s.raiseDecodeError x).config = s.config := rfl

/-! ### `writeF` -/

@[simp] theorem writeF_a (s : State) (v : Byte) : (s.writeF v).a = s.a := rfl
@[simp] theorem writeF_b (s : State) (v : Byte) : (s.writeF v).b = s.b := rfl
@[simp] theorem writeF_c (s : State) (v : Byte) : (s.writeF v).c = s.c := rfl
@[simp] theorem writeF_d (s : State) (v : Byte) : (s.writeF v).d = s.d := rfl
@[simp] theorem writeF_e (s : State) (v : Byte) : (s.writeF v).e = s.e := rfl
@[simp] theorem writeF_h (s : State) (v : Byte) : (s.writeF v).h = s.h := rfl
@[simp] theorem writeF_l (s : State) (v : Byte) : (s.writeF v).l = s.l := rfl
@[simp] theorem writeF_pc (s : State) (v : Byte) : (s.writeF v).pc = s.pc := rfl
@[simp] theorem writeF_sp (s : State) (v : Byte) : (s.writeF v).sp = s.sp := rfl
@[simp] theorem writeF_mode (s : State) (v : Byte) : (s.writeF v).mode = s.mode := rfl
@[simp] theorem writeF_ime (s : State) (v : Byte) : (s.writeF v).ime = s.ime := rfl
@[simp] theorem writeF_imePending (s : State) (v : Byte) : (s.writeF v).imePending = s.imePending := rfl
@[simp] theorem writeF_haltCause (s : State) (v : Byte) : (s.writeF v).haltCause = s.haltCause := rfl
@[simp] theorem writeF_fault (s : State) (v : Byte) : (s.writeF v).fault = s.fault := rfl
@[simp] theorem writeF_mem (s : State) (v : Byte) : (s.writeF v).mem = s.mem := rfl
@[simp] theorem writeF_romPhase (s : State) (v : Byte) : (s.writeF v).romPhase = s.romPhase := rfl
@[simp] theorem writeF_config (s : State) (v : Byte) : (s.writeF v).config = s.config := rfl

/-! ### `writeFlag` -/

@[simp] theorem writeFlag_a (s : State) (fl : Flag) (v : Bool) : (s.writeFlag fl v).a = s.a := rfl
@[simp] theorem writeFlag_b (s : State) (fl : Flag) (v : Bool) : (s.writeFlag fl v).b = s.b := rfl
@[simp] theorem writeFlag_c (s : State) (fl : Flag) (v : Bool) : (s.writeFlag fl v).c = s.c := rfl
@[simp] theorem writeFlag_d (s : State) (fl : Flag) (v : Bool) : (s.writeFlag fl v).d = s.d := rfl
@[simp] theorem writeFlag_e (s : State) (fl : Flag) (v : Bool) : (s.writeFlag fl v).e = s.e := rfl
@[simp] theorem writeFlag_h (s : State) (fl : Flag) (v : Bool) : (s.writeFlag fl v).h = s.h := rfl
@[simp] theorem writeFlag_l (s : State) (fl : Flag) (v : Bool) : (s.writeFlag fl v).l = s.l := rfl
@[simp] theorem writeFlag_pc (s : State) (fl : Flag) (v : Bool) : (s.writeFlag fl v).pc = s.pc := rfl
@[simp] theorem writeFlag_sp (s : State) (fl : Flag) (v : Bool) : (s.writeFlag fl v).sp = s.sp := rfl
@[simp] theorem writeFlag_mode (s : State) (fl : Flag) (v : Bool) : (s.writeFlag fl v).mode = s.mode := rfl
@[simp] theorem writeFlag_ime (s : State) (fl : Flag) (v : Bool) : (s.writeFlag fl v).ime = s.ime := rfl
@[simp] theorem writeFlag_imePending (s : State) (fl : Flag) (v : Bool) : (s.writeFlag fl v).imePending = s.imePending := rfl
@[simp] theorem writeFlag_haltCause (s : State) (fl : Flag) (v : Bool) : (s.writeFlag fl v).haltCause = s.haltCause := rfl
@[simp] theorem writeFlag_fault (s : State) (fl : Flag) (v : Bool) : (s.writeFlag fl v).fault = s.fault := rfl
@[simp] theorem writeFlag_mem (s : State) (fl : Flag) (v : Bool) : (s.writeFlag fl v).mem = s.mem := rfl
@[simp] theorem writeFlag_romPhase (s : State) (fl : Flag) (v : Bool) : (s.writeFlag fl v).romPhase = s.romPhase := rfl
@[simp] theorem writeFlag_config (s : State) (fl : Flag) (v : Bool) : (s.writeFlag fl v).config = s.config := rfl

/-! ### `setFlags` -/

@[simp] theorem setFlags_a (s : State) (z n h c : Bool) : (s.setFlags z n h c).a = s.a := rfl
@[simp] theorem setFlags_b (s : State) (z n h c : Bool) : (s.setFlags z n h c).b = s.b := rfl
@[simp] theorem setFlags_c (s : State) (z n h c : Bool) : (s.setFlags z n h c).c = s.c := rfl
@[simp] theorem setFlags_d (s : State) (z n h c : Bool) : (s.setFlags z n h c).d = s.d := rfl
@[simp] theorem setFlags_e (s : State) (z n h c : Bool) : (s.setFlags z n h c).e = s.e := rfl
@[simp] theorem setFlags_h (s : State) (z n h c : Bool) : (s.setFlags z n h c).h = s.h := rfl
@[simp] theorem setFlags_l (s : State) (z n h c : Bool) : (s.setFlags z n h c).l = s.l := rfl
@[simp] theorem setFlags_pc (s : State) (z n h c : Bool) : (s.setFlags z n h c).pc = s.pc := rfl
@[simp] theorem setFlags_sp (s : State) (z n h c : Bool) : (s.setFlags z n h c).sp = s.sp := rfl
@[simp] theorem setFlags_mode (s : State) (z n h c : Bool) : (s.setFlags z n h c).mode = s.mode := rfl
@[simp] theorem setFlags_ime (s : State) (z n h c : Bool) : (s.setFlags z n h c).ime = s.ime := rfl
@[simp] theorem setFlags_imePending (s : State) (z n h c : Bool) : (s.setFlags z n h c).imePending = s.imePending := rfl
@[simp] theorem setFlags_haltCause (s : State) (z n h c : Bool) : (s.setFlags z n h c).haltCause = s.haltCause := rfl
@[simp] theorem setFlags_fault (s : State) (z n h c : Bool) : (s.setFlags z n h c).fault = s.fault := rfl
@[simp] theorem setFlags_mem (s : State) (z n h c : Bool) : (s.setFlags z n h c).mem = s.mem := rfl
@[simp] theorem setFlags_romPhase (s : State) (z n h c : Bool) : (s.setFlags z n h c).romPhase = s.romPhase := rfl
@[simp] theorem setFlags_config (s : State) (z n h c : Bool) : (s.setFlags z n h c).config = s.config := rfl

/-! ### `setFlagsZNH` -/

@[simp] theorem setFlagsZNH_a (s : State) (z n h : Bool) : (s.setFlagsZNH z n h).a = s.a := rfl
@[simp] theorem setFlagsZNH_b (s : State) (z n h : Bool) : (s.setFlagsZNH z n h).b = s.b := rfl
@[simp] theorem setFlagsZNH_c (s : State) (z n h : Bool) : (s.setFlagsZNH z n h).c = s.c := rfl
@[simp] theorem setFlagsZNH_d (s : State) (z n h : Bool) : (s.setFlagsZNH z n h).d = s.d := rfl
@[simp] theorem setFlagsZNH_e (s : State) (z n h : Bool) : (s.setFlagsZNH z n h).e = s.e := rfl
@[simp] theorem setFlagsZNH_h (s : State) (z n h : Bool) : (s.setFlagsZNH z n h).h = s.h := rfl
@[simp] theorem setFlagsZNH_l (s : State) (z n h : Bool) : (s.setFlagsZNH z n h).l = s.l := rfl
@[simp] theorem setFlagsZNH_pc (s : State) (z n h : Bool) : (s.setFlagsZNH z n h).pc = s.pc := rfl
@[simp] theorem setFlagsZNH_sp (s : State) (z n h : Bool) : (s.setFlagsZNH z n h).sp = s.sp := rfl
@[simp] theorem setFlagsZNH_mode (s : State) (z n h : Bool) : (s.setFlagsZNH z n h).mode = s.mode := rfl
@[simp] theorem setFlagsZNH_ime (s : State) (z n h : Bool) : (s.setFlagsZNH z n h).ime = s.ime := rfl
@[simp] theorem setFlagsZNH_imePending (s : State) (z n h : Bool) : (s.setFlagsZNH z n h).imePending = s.imePending := rfl
@[simp] theorem setFlagsZNH_haltCause (s : State) (z n h : Bool) : (s.setFlagsZNH z n h).haltCause = s.haltCause := rfl
@[simp] theorem setFlagsZNH_fault (s : State) (z n h : Bool) : (s.setFlagsZNH z n h).fault = s.fault := rfl
@[simp] theorem setFlagsZNH_mem (s : State) (z n h : Bool) : (s.setFlagsZNH z n h).mem = s.mem := rfl
@[simp] theorem setFlagsZNH_romPhase (s : State) (z n h : Bool) : (s.setFlagsZNH z n h).romPhase = s.romPhase := rfl
@[simp] theorem setFlagsZNH_config (s : State) (z n h : Bool) : (s.setFlagsZNH z n h).config = s.config := rfl

/-! ### `setFlagsNHC` -/

@[simp] theorem setFlagsNHC_a (s : State) (n h c : Bool) : (s.setFlagsNHC n h c).a = s.a := rfl
@[simp] theorem setFlagsNHC_b (s : State) (n h c : Bool) : (s.setFlagsNHC n h c).b = s.b := rfl
@[simp] theorem setFlagsNHC_c (s : State) (n h c : Bool) : (s.setFlagsNHC n h c).c = s.c := rfl
@[simp] theorem setFlagsNHC_d (s : State) (n h c : Bool) : (s.setFlagsNHC n h c).d = s.d := rfl
@[simp] theorem setFlagsNHC_e (s : State) (n h c : Bool) : (s.setFlagsNHC n h c).e = s.e := rfl
@[simp] theorem setFlagsNHC_h (s : State) (n h c : Bool) : (s.setFlagsNHC n h c).h = s.h := rfl
@[simp] theorem setFlagsNHC_l (s : State) (n h c : Bool) : (s.setFlagsNHC n h c).l = s.l := rfl
@[simp] theorem setFlagsNHC_pc (s : State) (n h c : Bool) : (s.setFlagsNHC n h c).pc = s.pc := rfl
@[simp] theorem setFlagsNHC_sp (s : State) (n h c : Bool) : (s.setFlagsNHC n h c).sp = s.sp := rfl
@[simp] theorem setFlagsNHC_mode (s : State) (n h c : Bool) : (s.setFlagsNHC n h c).mode = s.mode := rfl
@[simp] theorem setFlagsNHC_ime (s : State) (n h c : Bool) : (s.setFlagsNHC n h c).ime = s.ime := rfl
@[simp] theorem setFlagsNHC_imePending (s : State) (n h c : Bool) : (s.setFlagsNHC n h c).imePending = s.imePending := rfl
@[simp] theorem setFlagsNHC_haltCause (s : State) (n h c : Bool) : (s.setFlagsNHC n h c).haltCause = s.haltCause := rfl
@[simp] theorem setFlagsNHC_fault (s : State) (n h c : Bool) : (s.setFlagsNHC n h c).fault = s.fault := rfl
@[simp] theorem setFlagsNHC_mem (s : State) (n h c : Bool) : (s.setFlagsNHC n h c).mem = s.mem := rfl
@[simp] theorem setFlagsNHC_romPhase (s : State) (n h c : Bool) : (s.setFlagsNHC n h c).romPhase = s.romPhase := rfl
@[simp] theorem setFlagsNHC_config (s : State) (n h c : Bool) : (s.setFlagsNHC n h c).config = s.config := rfl

/-! ### `setFlagsFrom` -/

@[simp] theorem setFlagsFrom_a (s : State) {w : Nat} (r : AluResult w) : (s.setFlagsFrom r).a = s.a := rfl
@[simp] theorem setFlagsFrom_b (s : State) {w : Nat} (r : AluResult w) : (s.setFlagsFrom r).b = s.b := rfl
@[simp] theorem setFlagsFrom_c (s : State) {w : Nat} (r : AluResult w) : (s.setFlagsFrom r).c = s.c := rfl
@[simp] theorem setFlagsFrom_d (s : State) {w : Nat} (r : AluResult w) : (s.setFlagsFrom r).d = s.d := rfl
@[simp] theorem setFlagsFrom_e (s : State) {w : Nat} (r : AluResult w) : (s.setFlagsFrom r).e = s.e := rfl
@[simp] theorem setFlagsFrom_h (s : State) {w : Nat} (r : AluResult w) : (s.setFlagsFrom r).h = s.h := rfl
@[simp] theorem setFlagsFrom_l (s : State) {w : Nat} (r : AluResult w) : (s.setFlagsFrom r).l = s.l := rfl
@[simp] theorem setFlagsFrom_pc (s : State) {w : Nat} (r : AluResult w) : (s.setFlagsFrom r).pc = s.pc := rfl
@[simp] theorem setFlagsFrom_sp (s : State) {w : Nat} (r : AluResult w) : (s.setFlagsFrom r).sp = s.sp := rfl
@[simp] theorem setFlagsFrom_mode (s : State) {w : Nat} (r : AluResult w) : (s.setFlagsFrom r).mode = s.mode := rfl
@[simp] theorem setFlagsFrom_ime (s : State) {w : Nat} (r : AluResult w) : (s.setFlagsFrom r).ime = s.ime := rfl
@[simp] theorem setFlagsFrom_imePending (s : State) {w : Nat} (r : AluResult w) : (s.setFlagsFrom r).imePending = s.imePending := rfl
@[simp] theorem setFlagsFrom_haltCause (s : State) {w : Nat} (r : AluResult w) : (s.setFlagsFrom r).haltCause = s.haltCause := rfl
@[simp] theorem setFlagsFrom_fault (s : State) {w : Nat} (r : AluResult w) : (s.setFlagsFrom r).fault = s.fault := rfl
@[simp] theorem setFlagsFrom_mem (s : State) {w : Nat} (r : AluResult w) : (s.setFlagsFrom r).mem = s.mem := rfl
@[simp] theorem setFlagsFrom_romPhase (s : State) {w : Nat} (r : AluResult w) : (s.setFlagsFrom r).romPhase = s.romPhase := rfl
@[simp] theorem setFlagsFrom_config (s : State) {w : Nat} (r : AluResult w) : (s.setFlagsFrom r).config = s.config := rfl

/-! ### `setReg` -/

@[simp] theorem setReg_f (s : State) (r : Reg) (v : Byte) : (s.setReg r v).f = s.f := by cases r <;> rfl
@[simp] theorem setReg_pc (s : State) (r : Reg) (v : Byte) : (s.setReg r v).pc = s.pc := by cases r <;> rfl
@[simp] theorem setReg_sp (s : State) (r : Reg) (v : Byte) : (s.setReg r v).sp = s.sp := by cases r <;> rfl
@[simp] theorem setReg_mode (s : State) (r : Reg) (v : Byte) : (s.setReg r v).mode = s.mode := by cases r <;> rfl
@[simp] theorem setReg_ime (s : State) (r : Reg) (v : Byte) : (s.setReg r v).ime = s.ime := by cases r <;> rfl
@[simp] theorem setReg_imePending (s : State) (r : Reg) (v : Byte) : (s.setReg r v).imePending = s.imePending := by cases r <;> rfl
@[simp] theorem setReg_haltCause (s : State) (r : Reg) (v : Byte) : (s.setReg r v).haltCause = s.haltCause := by cases r <;> rfl
@[simp] theorem setReg_fault (s : State) (r : Reg) (v : Byte) : (s.setReg r v).fault = s.fault := by cases r <;> rfl
@[simp] theorem setReg_mem (s : State) (r : Reg) (v : Byte) : (s.setReg r v).mem = s.mem := by cases r <;> rfl
@[simp] theorem setReg_romPhase (s : State) (r : Reg) (v : Byte) : (s.setReg r v).romPhase = s.romPhase := by cases r <;> rfl
@[simp] theorem setReg_config (s : State) (r : Reg) (v : Byte) : (s.setReg r v).config = s.config := by cases r <;> rfl

/-! ### `setPair` -/

@[simp] theorem setPair_pc (s : State) (p : Pair) (v : Word) : (s.setPair p v).pc = s.pc := by cases p <;> rfl
@[simp] theorem setPair_sp (s : State) (p : Pair) (v : Word) : (s.setPair p v).sp = s.sp := by cases p <;> rfl
@[simp] theorem setPair_mode (s : State) (p : Pair) (v : Word) : (s.setPair p v).mode = s.mode := by cases p <;> rfl
@[simp] theorem setPair_ime (s : State) (p : Pair) (v : Word) : (s.setPair p v).ime = s.ime := by cases p <;> rfl
@[simp] theorem setPair_imePending (s : State) (p : Pair) (v : Word) : (s.setPair p v).imePending = s.imePending := by cases p <;> rfl
@[simp] theorem setPair_haltCause (s : State) (p : Pair) (v : Word) : (s.setPair p v).haltCause = s.haltCause := by cases p <;> rfl
@[simp] theorem setPair_fault (s : State) (p : Pair) (v : Word) : (s.setPair p v).fault = s.fault := by cases p <;> rfl
@[simp] theorem setPair_mem (s : State) (p : Pair) (v : Word) : (s.setPair p v).mem = s.mem := by cases p <;> rfl
@[simp] theorem setPair_romPhase (s : State) (p : Pair) (v : Word) : (s.setPair p v).romPhase = s.romPhase := by cases p <;> rfl
@[simp] theorem setPair_config (s : State) (p : Pair) (v : Word) : (s.setPair p v).config = s.config := by cases p <;> rfl

/-! ### `setReg16` -/

@[simp] theorem setReg16_a (s : State) (r : Reg16) (v : Word) : (s.setReg16 r v).a = s.a := by cases r <;> rfl
@[simp] theorem setReg16_f (s : State) (r : Reg16) (v : Word) : (s.setReg16 r v).f = s.f := by cases r <;> rfl
@[simp] theorem setReg16_pc (s : State) (r : Reg16) (v : Word) : (s.setReg16 r v).pc = s.pc := by cases r <;> rfl
@[simp] theorem setReg16_mode (s : State) (r : Reg16) (v : Word) : (s.setReg16 r v).mode = s.mode := by cases r <;> rfl
@[simp] theorem setReg16_ime (s : State) (r : Reg16) (v : Word) : (s.setReg16 r v).ime = s.ime := by cases r <;> rfl
@[simp] theorem setReg16_imePending (s : State) (r : Reg16) (v : Word) : (s.setReg16 r v).imePending = s.imePending := by cases r <;> rfl
@[simp] theorem setReg16_haltCause (s : State) (r : Reg16) (v : Word) : (s.setReg16 r v).haltCause = s.haltCause := by cases r <;> rfl
@[simp] theorem setReg16_fault (s : State) (r : Reg16) (v : Word) : (s.setReg16 r v).fault = s.fault := by cases r <;> rfl
@[simp] theorem setReg16_mem (s : State) (r : Reg16) (v : Word) : (s.setReg16 r v).mem = s.mem := by cases r <;> rfl
@[simp] theorem setReg16_romPhase (s : State) (r : Reg16) (v : Word) : (s.setReg16 r v).romPhase = s.romPhase := by cases r <;> rfl
@[simp] theorem setReg16_config (s : State) (r : Reg16) (v : Word) : (s.setReg16 r v).config = s.config := by cases r <;> rfl

/-! ### `memWrite` -/

@[simp] theorem memWrite_a (s : State) (x : Word) (v : Byte) : (s.memWrite x v).a = s.a := by unfold State.memWrite; split <;> rfl
@[simp] theorem memWrite_b (s : State) (x : Word) (v : Byte) : (s.memWrite x v).b = s.b := by unfold State.memWrite; split <;> rfl
@[simp] theorem memWrite_c (s : State) (x : Word) (v : Byte) : (s.memWrite x v).c = s.c := by unfold State.memWrite; split <;> rfl
@[simp] theorem memWrite_d (s : State) (x : Word) (v : Byte) : (s.memWrite x v).d = s.d := by unfold State.memWrite; split <;> rfl
@[simp] theorem memWrite_e (s : State) (x : Word) (v : Byte) : (s.memWrite x v).e = s.e := by unfold State.memWrite; split <;> rfl
@[simp] theorem memWrite_f (s : State) (x : Word) (v : Byte) : (s.memWrite x v).f = s.f := by unfold State.memWrite; split <;> rfl
@[simp] theorem memWrite_h (s : State) (x : Word) (v : Byte) : (s.memWrite x v).h = s.h := by unfold State.memWrite; split <;> rfl
@[simp] theorem memWrite_l (s : State) (x : Word) (v : Byte) : (s.memWrite x v).l = s.l := by unfold State.memWrite; split <;> rfl
@[simp] theorem memWrite_pc (s : State) (x : Word) (v : Byte) : (s.memWrite x v).pc = s.pc := by unfold State.memWrite; split <;> rfl
@[simp] theorem memWrite_sp (s : State) (x : Word) (v : Byte) : (s.memWrite x v).sp = s.sp := by unfold State.memWrite; split <;> rfl
@[simp] theorem memWrite_mode (s : State) (x : Word) (v : Byte) : (s.memWrite x v).mode = s.mode := by unfold State.memWrite; split <;> rfl
@[simp] theorem memWrite_ime (s : State) (x : Word) (v : Byte) : (s.memWrite x v).ime = s.ime := by unfold State.memWrite; split <;> rfl
@[simp] theorem memWrite_imePending (s : State) (x : Word) (v : Byte) : (s.memWrite x v).imePending = s.imePending := by unfold State.memWrite; split <;> rfl
@[simp] theorem memWrite_haltCause (s : State) (x : Word) (v : Byte) : (s.memWrite x v).haltCause = s.haltCause := by unfold State.memWrite; split <;> rfl
@[simp] theorem memWrite_fault (s : State) (x : Word) (v : Byte) : (s.memWrite x v).fault = s.fault := by unfold State.memWrite; split <;> rfl
@[simp] theorem memWrite_romPhase (s : State) (x : Word) (v : Byte) : (s.memWrite x v).romPhase = s.romPhase := by unfold State.memWrite; split <;> rfl
@[simp] theorem memWrite_config (s : State) (x : Word) (v : Byte) : (s.memWrite x v).config = s.config := by unfold State.memWrite; split <;> rfl

/-! ### `memWrite16` -/

@[simp] theorem memWrite16_a (s : State) (x v : Word) : (s.memWrite16 x v).a = s.a := by simp [State.memWrite16]
@[simp] theorem memWrite16_b (s : State) (x v : Word) : (s.memWrite16 x v).b = s.b := by simp [State.memWrite16]
@[simp] theorem memWrite16_c (s : State) (x v : Word) : (s.memWrite16 x v).c = s.c := by simp [State.memWrite16]
@[simp] theorem memWrite16_d (s : State) (x v : Word) : (s.memWrite16 x v).d = s.d := by simp [State.memWrite16]
@[simp] theorem memWrite16_e (s : State) (x v : Word) : (s.memWrite16 x v).e = s.e := by simp [State.memWrite16]
@[simp] theorem memWrite16_f (s : State) (x v : Word) : (s.memWrite16 x v).f = s.f := by simp [State.memWrite16]
@[simp] theorem memWrite16_h (s : State) (x v : Word) : (s.memWrite16 x v).h = s.h := by simp [State.memWrite16]
@[simp] theorem memWrite16_l (s : State) (x v : Word) : (s.memWrite16 x v).l = s.l := by simp [State.memWrite16]
@[simp] theorem memWrite16_pc (s : State) (x v : Word) : (s.memWrite16 x v).pc = s.pc := by simp [State.memWrite16]
@[simp] theorem memWrite16_sp (s : State) (x v : Word) : (s.memWrite16 x v).sp = s.sp := by simp [State.memWrite16]
@[simp] theorem memWrite16_mode (s : State) (x v : Word) : (s.memWrite16 x v).mode = s.mode := by simp [State.memWrite16]
@[simp] theorem memWrite16_ime (s : State) (x v : Word) : (s.memWrite16 x v).ime = s.ime := by simp [State.memWrite16]
@[simp] theorem memWrite16_imePending (s : State) (x v : Word) : (s.memWrite16 x v).imePending = s.imePending := by simp [State.memWrite16]
@[simp] theorem memWrite16_haltCause (s : State) (x v : Word) : (s.memWrite16 x v).haltCause = s.haltCause := by simp [State.memWrite16]
@[simp] theorem memWrite16_fault (s : State) (x v : Word) : (s.memWrite16 x v).fault = s.fault := by simp [State.memWrite16]
@[simp] theorem memWrite16_romPhase (s : State) (x v : Word) : (s.memWrite16 x v).romPhase = s.romPhase := by simp [State.memWrite16]
@[simp] theorem memWrite16_config (s : State) (x v : Word) : (s.memWrite16 x v).config = s.config := by simp [State.memWrite16]

/-! ### `commitDelayedEi` -/

@[simp] theorem commitDelayedEi_a (s : State) (pend : Bool) : (s.commitDelayedEi pend).a = s.a := by unfold State.commitDelayedEi; split <;> rfl
@[simp] theorem commitDelayedEi_b (s : State) (pend : Bool) : (s.commitDelayedEi pend).b = s.b := by unfold State.commitDelayedEi; split <;> rfl
@[simp] theorem commitDelayedEi_c (s : State) (pend : Bool) : (s.commitDelayedEi pend).c = s.c := by unfold State.commitDelayedEi; split <;> rfl
@[simp] theorem commitDelayedEi_d (s : State) (pend : Bool) : (s.commitDelayedEi pend).d = s.d := by unfold State.commitDelayedEi; split <;> rfl
@[simp] theorem commitDelayedEi_e (s : State) (pend : Bool) : (s.commitDelayedEi pend).e = s.e := by unfold State.commitDelayedEi; split <;> rfl
@[simp] theorem commitDelayedEi_f (s : State) (pend : Bool) : (s.commitDelayedEi pend).f = s.f := by unfold State.commitDelayedEi; split <;> rfl
@[simp] theorem commitDelayedEi_h (s : State) (pend : Bool) : (s.commitDelayedEi pend).h = s.h := by unfold State.commitDelayedEi; split <;> rfl
@[simp] theorem commitDelayedEi_l (s : State) (pend : Bool) : (s.commitDelayedEi pend).l = s.l := by unfold State.commitDelayedEi; split <;> rfl
@[simp] theorem commitDelayedEi_pc (s : State) (pend : Bool) : (s.commitDelayedEi pend).pc = s.pc := by unfold State.commitDelayedEi; split <;> rfl
@[simp] theorem commitDelayedEi_sp (s : State) (pend : Bool) : (s.commitDelayedEi pend).sp = s.sp := by unfold State.commitDelayedEi; split <;> rfl
@[simp] theorem commitDelayedEi_mode (s : State) (pend : Bool) : (s.commitDelayedEi pend).mode = s.mode := by unfold State.commitDelayedEi; split <;> rfl
@[simp] theorem commitDelayedEi_haltCause (s : State) (pend : Bool) : (s.commitDelayedEi pend).haltCause = s.haltCause := by unfold State.commitDelayedEi; split <;> rfl
@[simp] theorem commitDelayedEi_fault (s : State) (pend : Bool) : (s.commitDelayedEi pend).fault = s.fault := by unfold State.commitDelayedEi; split <;> rfl
@[simp] theorem commitDelayedEi_mem (s : State) (pend : Bool) : (s.commitDelayedEi pend).mem = s.mem := by unfold State.commitDelayedEi; split <;> rfl
@[simp] theorem commitDelayedEi_romPhase (s : State) (pend : Bool) : (s.commitDelayedEi pend).romPhase = s.romPhase := by unfold State.commitDelayedEi; split <;> rfl
@[simp] theorem commitDelayedEi_config (s : State) (pend : Bool) : (s.commitDelayedEi pend).config = s.config := by unfold State.commitDelayedEi; split <;> rfl

/-! ### `push16` -/

@[simp] theorem push16_a (s : State) (v : Word) : (s.push16 v).a = s.a := by simp [State.push16]
@[simp] theorem push16_b (s : State) (v : Word) : (s.push16 v).b = s.b := by simp [State.push16]
@[simp] theorem push16_c (s : State) (v : Word) : (s.push16 v).c = s.c := by simp [State.push16]
@[simp] theorem push16_d (s : State) (v : Word) : (s.push16 v).d = s.d := by simp [State.push16]
@[simp] theorem push16_e (s : State) (v : Word) : (s.push16 v).e = s.e := by simp [State.push16]
@[simp] theorem push16_f (s : State) (v : Word) : (s.push16 v).f = s.f := by simp [State.push16]
@[simp] theorem push16_h (s : State) (v : Word) : (s.push16 v).h = s.h := by simp [State.push16]
@[simp] theorem push16_l (s : State) (v : Word) : (s.push16 v).l = s.l := by simp [State.push16]
@[simp] theorem push16_pc (s : State) (v : Word) : (s.push16 v).pc = s.pc := by simp [State.push16]
@[simp] theorem push16_mode (s : State) (v : Word) : (s.push16 v).mode = s.mode := by simp [State.push16]
@[simp] theorem push16_ime (s : State) (v : Word) : (s.push16 v).ime = s.ime := by simp [State.push16]
@[simp] theorem push16_imePending (s : State) (v : Word) : (s.push16 v).imePending = s.imePending := by simp [State.push16]
@[simp] theorem push16_haltCause (s : State) (v : Word) : (s.push16 v).haltCause = s.haltCause := by simp [State.push16]
@[simp] theorem push16_fault (s : State) (v : Word) : (s.push16 v).fault = s.fault := by simp [State.push16]
@[simp] theorem push16_romPhase (s : State) (v : Word) : (s.push16 v).romPhase = s.romPhase := by simp [State.push16]
@[simp] theorem push16_config (s : State) (v : Word) : (s.push16 v).config = s.config := by simp [State.push16]

/-! ### What each update writes -/

@[simp] theorem setPc_pc (s : State) (v : Word) : (s.setPc v).pc = v := rfl
@[simp] theorem advance_pc (s : State) (n : Nat) : (s.advance n).pc = s.pc + BitVec.ofNat 16 n := rfl
@[simp] theorem setSp_sp (s : State) (v : Word) : (s.setSp v).sp = v := rfl
@[simp] theorem popDone_sp (s : State) : s.popDone.sp = s.sp + 2 := rfl
@[simp] theorem push16_sp (s : State) (v : Word) : (s.push16 v).sp = s.sp - 2 := rfl
@[simp] theorem push16_mem (s : State) (v : Word) : (s.push16 v).mem = (s.memWrite16 (s.sp - 2) v).mem := rfl
@[simp] theorem setIme_ime (s : State) (enable pending : Bool) : (s.setIme enable pending).ime = enable := rfl
@[simp] theorem setIme_imePending (s : State) (enable pending : Bool) : (s.setIme enable pending).imePending = pending := rfl
@[simp] theorem enterHalted_mode (s : State) (x : HaltCause) : (s.enterHalted x).mode = .halted := rfl
@[simp] theorem enterHalted_haltCause (s : State) (x : HaltCause) : (s.enterHalted x).haltCause = x := rfl
@[simp] theorem raiseDecodeError_mode (s : State) (x : List Byte) : (s.raiseDecodeError x).mode = .faulted := rfl
@[simp] theorem raiseDecodeError_fault (s : State) (x : List Byte) :
    (s.raiseDecodeError x).fault = some { cause := .decodeError, addr := s.pc, bytes := x } := rfl
@[simp] theorem writeF_f (s : State) (v : Byte) : (s.writeF v).f = v &&& 0xF0#8 := rfl
@[simp] theorem setReg_a (s : State) (r : Reg) (v : Byte) : (s.setReg r v).a = if r = .a then v else s.a := by cases r <;> rfl
@[simp] theorem setReg_b (s : State) (r : Reg) (v : Byte) : (s.setReg r v).b = if r = .b then v else s.b := by cases r <;> rfl
@[simp] theorem setReg_c (s : State) (r : Reg) (v : Byte) : (s.setReg r v).c = if r = .c then v else s.c := by cases r <;> rfl
@[simp] theorem setReg_d (s : State) (r : Reg) (v : Byte) : (s.setReg r v).d = if r = .d then v else s.d := by cases r <;> rfl
@[simp] theorem setReg_e (s : State) (r : Reg) (v : Byte) : (s.setReg r v).e = if r = .e then v else s.e := by cases r <;> rfl
@[simp] theorem setReg_h (s : State) (r : Reg) (v : Byte) : (s.setReg r v).h = if r = .h then v else s.h := by cases r <;> rfl
@[simp] theorem setReg_l (s : State) (r : Reg) (v : Byte) : (s.setReg r v).l = if r = .l then v else s.l := by cases r <;> rfl
@[simp] theorem getReg_a (s : State) : s.getReg .a = s.a := rfl
@[simp] theorem getReg_b (s : State) : s.getReg .b = s.b := rfl
@[simp] theorem getReg_c (s : State) : s.getReg .c = s.c := rfl
@[simp] theorem getReg_d (s : State) : s.getReg .d = s.d := rfl
@[simp] theorem getReg_e (s : State) : s.getReg .e = s.e := rfl
@[simp] theorem getReg_h (s : State) : s.getReg .h = s.h := rfl
@[simp] theorem getReg_l (s : State) : s.getReg .l = s.l := rfl

/-- Registers are separate storage (R20). -/
@[simp] theorem getReg_setReg (s : State) (r q : Reg) (v : Byte) :
    (s.setReg r v).getReg q = if r = q then v else s.getReg q := by cases r <;> cases q <;> rfl

/-! ### Writes of pairs and of 16-bit registers, form by form -/

@[simp] theorem setPair_bc_a (s : State) (v : Word) : (s.setPair .bc v).a = s.a := rfl
@[simp] theorem setPair_bc_b (s : State) (v : Word) : (s.setPair .bc v).b = hiByte v := rfl
@[simp] theorem setPair_bc_c (s : State) (v : Word) : (s.setPair .bc v).c = loByte v := rfl
@[simp] theorem setPair_bc_d (s : State) (v : Word) : (s.setPair .bc v).d = s.d := rfl
@[simp] theorem setPair_bc_e (s : State) (v : Word) : (s.setPair .bc v).e = s.e := rfl
@[simp] theorem setPair_bc_h (s : State) (v : Word) : (s.setPair .bc v).h = s.h := rfl
@[simp] theorem setPair_bc_l (s : State) (v : Word) : (s.setPair .bc v).l = s.l := rfl
@[simp] theorem setPair_bc_f (s : State) (v : Word) : (s.setPair .bc v).f = s.f := rfl
@[simp] theorem setPair_de_a (s : State) (v : Word) : (s.setPair .de v).a = s.a := rfl
@[simp] theorem setPair_de_b (s : State) (v : Word) : (s.setPair .de v).b = s.b := rfl
@[simp] theorem setPair_de_c (s : State) (v : Word) : (s.setPair .de v).c = s.c := rfl
@[simp] theorem setPair_de_d (s : State) (v : Word) : (s.setPair .de v).d = hiByte v := rfl
@[simp] theorem setPair_de_e (s : State) (v : Word) : (s.setPair .de v).e = loByte v := rfl
@[simp] theorem setPair_de_h (s : State) (v : Word) : (s.setPair .de v).h = s.h := rfl
@[simp] theorem setPair_de_l (s : State) (v : Word) : (s.setPair .de v).l = s.l := rfl
@[simp] theorem setPair_de_f (s : State) (v : Word) : (s.setPair .de v).f = s.f := rfl
@[simp] theorem setPair_hl_a (s : State) (v : Word) : (s.setPair .hl v).a = s.a := rfl
@[simp] theorem setPair_hl_b (s : State) (v : Word) : (s.setPair .hl v).b = s.b := rfl
@[simp] theorem setPair_hl_c (s : State) (v : Word) : (s.setPair .hl v).c = s.c := rfl
@[simp] theorem setPair_hl_d (s : State) (v : Word) : (s.setPair .hl v).d = s.d := rfl
@[simp] theorem setPair_hl_e (s : State) (v : Word) : (s.setPair .hl v).e = s.e := rfl
@[simp] theorem setPair_hl_h (s : State) (v : Word) : (s.setPair .hl v).h = hiByte v := rfl
@[simp] theorem setPair_hl_l (s : State) (v : Word) : (s.setPair .hl v).l = loByte v := rfl
@[simp] theorem setPair_hl_f (s : State) (v : Word) : (s.setPair .hl v).f = s.f := rfl
@[simp] theorem setPair_af_a (s : State) (v : Word) : (s.setPair .af v).a = hiByte v := rfl
@[simp] theorem setPair_af_b (s : State) (v : Word) : (s.setPair .af v).b = s.b := rfl
@[simp] theorem setPair_af_c (s : State) (v : Word) : (s.setPair .af v).c = s.c := rfl
@[simp] theorem setPair_af_d (s : State) (v : Word) : (s.setPair .af v).d = s.d := rfl
@[simp] theorem setPair_af_e (s : State) (v : Word) : (s.setPair .af v).e = s.e := rfl
@[simp] theorem setPair_af_h (s : State) (v : Word) : (s.setPair .af v).h = s.h := rfl
@[simp] theorem setPair_af_l (s : State) (v : Word) : (s.setPair .af v).l = s.l := rfl
@[simp] theorem setPair_af_f (s : State) (v : Word) : (s.setPair .af v).f = loByte v &&& 0xF0#8 := rfl
@[simp] theorem setReg16_bc (s : State) (v : Word) : s.setReg16 .bc v = s.setPair .bc v := rfl
@[simp] theorem getReg16_bc (s : State) : s.getReg16 .bc = s.getPair .bc := rfl
@[simp] theorem setReg16_de (s : State) (v : Word) : s.setReg16 .de v = s.setPair .de v := rfl
@[simp] theorem getReg16_de (s : State) : s.getReg16 .de = s.getPair .de := rfl
@[simp] theorem setReg16_hl (s : State) (v : Word) : s.setReg16 .hl v = s.setPair .hl v := rfl
@[simp] theorem getReg16_hl (s : State) : s.getReg16 .hl = s.getPair .hl := rfl
@[simp] theorem setReg16_sp (s : State) (v : Word) : s.setReg16 .sp v = s.setSp v := rfl
@[simp] theorem getReg16_sp (s : State) : s.getReg16 .sp = s.sp := rfl

/-! ### Reads depend only on the fields they name -/

theorem getReg_congr {s t : State} (ha : t.a = s.a) (hb : t.b = s.b) (hc : t.c = s.c) (hd : t.d = s.d) (he : t.e = s.e)
    (hh : t.h = s.h) (hl : t.l = s.l) (q : Reg) : t.getReg q = s.getReg q := by cases q <;> assumption
theorem readF_congr {s t : State} (hf : t.f = s.f) : t.readF = s.readF := by simp [State.readF, hf]
theorem getFlag_congr {s t : State} (hf : t.f = s.f) (fl : Flag) : t.getFlag fl = s.getFlag fl := by
  simp [State.getFlag, readF_congr hf]
theorem memRead_congr {s t : State} (hm : t.mem = s.mem) (x : Word) : t.memRead x = s.memRead x := by
  simp [State.memRead, hm]
theorem memRead16_congr {s t : State} (hm : t.mem = s.mem) (x : Word) : t.memRead16 x = s.memRead16 x := by
  simp [State.memRead16, memRead_congr hm]
theorem getPair_congr {s t : State} (ha : t.a = s.a) (hb : t.b = s.b) (hc : t.c = s.c) (hd : t.d = s.d) (he : t.e = s.e)
    (hf : t.f = s.f) (hh : t.h = s.h) (hl : t.l = s.l) (p : Pair) : t.getPair p = s.getPair p := by
  cases p <;> simp [State.getPair, State.readF, ha, hb, hc, hd, he, hf, hh, hl]

@[simp] theorem getReg_setPc (s : State) (v : Word) (q : Reg) : (s.setPc v).getReg q = s.getReg q := by cases q <;> simp
@[simp] theorem getPair_setPc (s : State) (v : Word) (p : Pair) : (s.setPc v).getPair p = s.getPair p := by apply getPair_congr <;> simp
@[simp] theorem readF_setPc (s : State) (v : Word) : (s.setPc v).readF = s.readF := readF_congr (by simp)
@[simp] theorem getFlag_setPc (s : State) (v : Word) (fl : Flag) : (s.setPc v).getFlag fl = s.getFlag fl := getFlag_congr (by simp) fl
@[simp] theorem memRead_setPc (s : State) (v : Word) (y : Word) : (s.setPc v).memRead y = s.memRead y := memRead_congr (by simp) y
@[simp] theorem getReg_advance (s : State) (n : Nat) (q : Reg) : (s.advance n).getReg q = s.getReg q := by cases q <;> simp
@[simp] theorem getPair_advance (s : State) (n : Nat) (p : Pair) : (s.advance n).getPair p = s.getPair p := by apply getPair_congr <;> simp
@[simp] theorem readF_advance (s : State) (n : Nat) : (s.advance n).readF = s.readF := readF_congr (by simp)
@[simp] theorem getFlag_advance (s : State) (n : Nat) (fl : Flag) : (s.advance n).getFlag fl = s.getFlag fl := getFlag_congr (by simp) fl
@[simp] theorem memRead_advance (s : State) (n : Nat) (y : Word) : (s.advance n).memRead y = s.memRead y := memRead_congr (by simp) y
@[simp] theorem getReg_setSp (s : State) (v : Word) (q : Reg) : (s.setSp v).getReg q = s.getReg q := by cases q <;> simp
@[simp] theorem getPair_setSp (s : State) (v : Word) (p : Pair) : (s.setSp v).getPair p = s.getPair p := by apply getPair_congr <;> simp
@[simp] theorem readF_setSp (s : State) (v : Word) : (s.setSp v).readF = s.readF := readF_congr (by simp)
@[simp] theorem getFlag_setSp (s : State) (v : Word) (fl : Flag) : (s.setSp v).getFlag fl = s.getFlag fl := getFlag_congr (by simp) fl
@[simp] theorem memRead_setSp (s : State) (v : Word) (y : Word) : (s.setSp v).memRead y = s.memRead y := memRead_congr (by simp) y
@[simp] theorem getReg_popDone (s : State) (q : Reg) : (s.popDone).getReg q = s.getReg q := by cases q <;> simp
@[simp] theorem getPair_popDone (s : State) (p : Pair) : (s.popDone).getPair p = s.getPair p := by apply getPair_congr <;> simp
@[simp] theorem readF_popDone (s : State) : (s.popDone).readF = s.readF := readF_congr (by simp)
@[simp] theorem getFlag_popDone (s : State) (fl : Flag) : (s.popDone).getFlag fl = s.getFlag fl := getFlag_congr (by simp) fl
@[simp] theorem memRead_popDone (s : State) (y : Word) : (s.popDone).memRead y = s.memRead y := memRead_congr (by simp) y
@[simp] theorem getReg_setIme (s : State) (enable pending : Bool) (q : Reg) : (s.setIme enable pending).getReg q = s.getReg q := by cases q <;> simp
@[simp] theorem getPair_setIme (s : State) (enable pending : Bool) (p : Pair) : (s.setIme enable pending).getPair p = s.getPair p := by apply getPair_congr <;> simp
@[simp] theorem readF_setIme (s : State) (enable pending : Bool) : (s.setIme enable pending).readF = s.readF := readF_congr (by simp)
@[simp] theorem getFlag_setIme (s : State) (enable pending : Bool) (fl : Flag) : (s.setIme enable pending).getFlag fl = s.getFlag fl := getFlag_congr (by simp) fl
@[simp] theorem memRead_setIme (s : State) (enable pending : Bool) (y : Word) : (s.setIme enable pending).memRead y = s.memRead y := memRead_congr (by simp) y
@[simp] theorem getReg_enterHalted (s : State) (x : HaltCause) (q : Reg) : (s.enterHalted x).getReg q = s.getReg q := by cases q <;> simp
@[simp] theorem getPair_enterHalted (s : State) (x : HaltCause) (p : Pair) : (s.enterHalted x).getPair p = s.getPair p := by apply getPair_congr <;> simp
@[simp] theorem readF_enterHalted (s : State) (x : HaltCause) : (s.enterHalted x).readF = s.readF := readF_congr (by simp)
@[simp] theorem getFlag_enterHalted (s : State) (x : HaltCause) (fl : Flag) : (s.enterHalted x).getFlag fl = s.getFlag fl := getFlag_congr (by simp) fl
@[simp] theorem memRead_enterHalted (s : State) (x : HaltCause) (y : Word) : (s.enterHalted x).memRead y = s.memRead y := memRead_congr (by simp) y
@[simp] theorem getReg_raiseDecodeError (s : State) (x : List Byte) (q : Reg) : (s.raiseDecodeError x).getReg q = s.getReg q := by cases q <;> simp
@[simp] theorem getPair_raiseDecodeError (s : State) (x : List Byte) (p : Pair) : (s.raiseDecodeError x).getPair p = s.getPair p := by apply getPair_congr <;> simp
@[simp] theorem readF_raiseDecodeError (s : State) (x : List Byte) : (s.raiseDecodeError x).readF = s.readF := readF_congr (by simp)
@[simp] theorem getFlag_raiseDecodeError (s : State) (x : List Byte) (fl : Flag) : (s.raiseDecodeError x).getFlag fl = s.getFlag fl := getFlag_congr (by simp) fl
@[simp] theorem memRead_raiseDecodeError (s : State) (x : List Byte) (y : Word) : (s.raiseDecodeError x).memRead y = s.memRead y := memRead_congr (by simp) y
@[simp] theorem getReg_writeF (s : State) (v : Byte) (q : Reg) : (s.writeF v).getReg q = s.getReg q := by cases q <;> simp
@[simp] theorem memRead_writeF (s : State) (v : Byte) (y : Word) : (s.writeF v).memRead y = s.memRead y := memRead_congr (by simp) y
@[simp] theorem getReg_writeFlag (s : State) (fl : Flag) (v : Bool) (q : Reg) : (s.writeFlag fl v).getReg q = s.getReg q := by cases q <;> simp
@[simp] theorem memRead_writeFlag (s : State) (fl : Flag) (v : Bool) (y : Word) : (s.writeFlag fl v).memRead y = s.memRead y := memRead_congr (by simp) y
@[simp] theorem getReg_setFlags (s : State) (z n h c : Bool) (q : Reg) : (s.setFlags z n h c).getReg q = s.getReg q := by cases q <;> simp
@[simp] theorem memRead_setFlags (s : State) (z n h c : Bool) (y : Word) : (s.setFlags z n h c).memRead y = s.memRead y := memRead_congr (by simp) y
@[simp] theorem getReg_setFlagsZNH (s : State) (z n h : Bool) (q : Reg) : (s.setFlagsZNH z n h).getReg q = s.getReg q := by cases q <;> simp
@[simp] theorem memRead_setFlagsZNH (s : State) (z n h : Bool) (y : Word) : (s.setFlagsZNH z n h).memRead y = s.memRead y := memRead_congr (by simp) y
@[simp] theorem getReg_setFlagsNHC (s : State) (n h c : Bool) (q : Reg) : (s.setFlagsNHC n h c).getReg q = s.getReg q := by cases q <;> simp
@[simp] theorem memRead_setFlagsNHC (s : State) (n h c : Bool) (y : Word) : (s.setFlagsNHC n h c).memRead y = s.memRead y := memRead_congr (by simp) y
@[simp] theorem getReg_setFlagsFrom (s : State) {w : Nat} (r : AluResult w) (q : Reg) : (s.setFlagsFrom r).getReg q = s.getReg q := by cases q <;> simp
@[simp] theorem memRead_setFlagsFrom (s : State) {w : Nat} (r : AluResult w) (y : Word) : (s.setFlagsFrom r).memRead y = s.memRead y := memRead_congr (by simp) y
@[simp] theorem readF_setReg (s : State) (r : Reg) (v : Byte) : (s.setReg r v).readF = s.readF := readF_congr (by simp)
@[simp] theorem getFlag_setReg (s : State) (r : Reg) (v : Byte) (fl : Flag) : (s.setReg r v).getFlag fl = s.getFlag fl := getFlag_congr (by simp) fl
@[simp] theorem memRead_setReg (s : State) (r : Reg) (v : Byte) (y : Word) : (s.setReg r v).memRead y = s.memRead y := memRead_congr (by simp) y
@[simp] theorem memRead_setPair (s : State) (p : Pair) (v : Word) (y : Word) : (s.setPair p v).memRead y = s.memRead y := memRead_congr (by simp) y
@[simp] theorem readF_setReg16 (s : State) (r : Reg16) (v : Word) : (s.setReg16 r v).readF = s.readF := readF_congr (by simp)
@[simp] theorem getFlag_setReg16 (s : State) (r : Reg16) (v : Word) (fl : Flag) : (s.setReg16 r v).getFlag fl = s.getFlag fl := getFlag_congr (by simp) fl
@[simp] theorem memRead_setReg16 (s : State) (r : Reg16) (v : Word) (y : Word) : (s.setReg16 r v).memRead y = s.memRead y := memRead_congr (by simp) y
@[simp] theorem getReg_memWrite (s : State) (x : Word) (v : Byte) (q : Reg) : (s.memWrite x v).getReg q = s.getReg q := by cases q <;> simp
@[simp] theorem getPair_memWrite (s : State) (x : Word) (v : Byte) (p : Pair) : (s.memWrite x v).getPair p = s.getPair p := by apply getPair_congr <;> simp
@[simp] theorem readF_memWrite (s : State) (x : Word) (v : Byte) : (s.memWrite x v).readF = s.readF := readF_congr (by simp)
@[simp] theorem getFlag_memWrite (s : State) (x : Word) (v : Byte) (fl : Flag) : (s.memWrite x v).getFlag fl = s.getFlag fl := getFlag_congr (by simp) fl
@[simp] theorem getReg_memWrite16 (s : State) (x v : Word) (q : Reg) : (s.memWrite16 x v).getReg q = s.getReg q := by cases q <;> simp
@[simp] theorem getPair_memWrite16 (s : State) (x v : Word) (p : Pair) : (s.memWrite16 x v).getPair p = s.getPair p := by apply getPair_congr <;> simp
@[simp] theorem readF_memWrite16 (s : State) (x v : Word) : (s.memWrite16 x v).readF = s.readF := readF_congr (by simp)
@[simp] theorem getFlag_memWrite16 (s : State) (x v : Word) (fl : Flag) : (s.memWrite16 x v).getFlag fl = s.getFlag fl := getFlag_congr (by simp) fl
@[simp] theorem getReg_commitDelayedEi (s : State) (pend : Bool) (q : Reg) : (s.commitDelayedEi pend).getReg q = s.getReg q := by cases q <;> simp
@[simp] theorem getPair_commitDelayedEi (s : State) (pend : Bool) (p : Pair) : (s.commitDelayedEi pend).getPair p = s.getPair p := by apply getPair_congr <;> simp
@[simp] theorem readF_commitDelayedEi (s : State) (pend : Bool) : (s.commitDelayedEi pend).readF = s.readF := readF_congr (by simp)
@[simp] theorem getFlag_commitDelayedEi (s : State) (pend : Bool) (fl : Flag) : (s.commitDelayedEi pend).getFlag fl = s.getFlag fl := getFlag_congr (by simp) fl
@[simp] theorem memRead_commitDelayedEi (s : State) (pend : Bool) (y : Word) : (s.commitDelayedEi pend).memRead y = s.memRead y := memRead_congr (by simp) y
@[simp] theorem getReg_push16 (s : State) (v : Word) (q : Reg) : (s.push16 v).getReg q = s.getReg q := by cases q <;> simp
@[simp] theorem getPair_push16 (s : State) (v : Word) (p : Pair) : (s.push16 v).getPair p = s.getPair p := by apply getPair_congr <;> simp
@[simp] theorem readF_push16 (s : State) (v : Word) : (s.push16 v).readF = s.readF := readF_congr (by simp)
@[simp] theorem getFlag_push16 (s : State) (v : Word) (fl : Flag) : (s.push16 v).getFlag fl = s.getFlag fl := getFlag_congr (by simp) fl
@[simp] theorem getFlag_setPair_bc (s : State) (v : Word) (fl : Flag) : (s.setPair .bc v).getFlag fl = s.getFlag fl := rfl
@[simp] theorem getFlag_setPair_de (s : State) (v : Word) (fl : Flag) : (s.setPair .de v).getFlag fl = s.getFlag fl := rfl
@[simp] theorem getFlag_setPair_hl (s : State) (v : Word) (fl : Flag) : (s.setPair .hl v).getFlag fl = s.getFlag fl := rfl

end Sys2Proof.Machine
end

