-- ==== Sys2Proof/Laws/Flags.lean ====
section
/-! SUPPORT. Laws of the flags register and of byte composition. -/

namespace Sys2Proof.Machine

/-- `F[3:0]` reads as zero (R26). -/
@[simp] theorem readF_low (s : State) : s.readF &&& 0x0F#8 = 0#8 := by
  simp [State.readF, BitVec.and_assoc]

/-- A write of `F` reads back without its low nibble (R26). -/
@[simp] theorem readF_writeF (s : State) (v : Byte) : (s.writeF v).readF = v &&& 0xF0#8 := by
  simp [State.readF, BitVec.and_assoc]

/-- Four flag values as the byte `F` (R25). -/
def packFlags (z n h c : Bool) : Byte :=
  (if z then 0x80#8 else 0#8) ||| (if n then 0x40#8 else 0#8) ||| (if h then 0x20#8 else 0#8) ||| (if c then 0x10#8 else 0#8)

theorem flag_write_read_byte : ∀ (f : Byte) (v : Bool) (fl q : Flag),
    ((((if v then (f &&& 0xF0#8) ||| flagMask fl else (f &&& 0xF0#8) &&& ~~~(flagMask fl)) &&& 0xF0#8) &&& 0xF0#8
      &&& flagMask q) != 0#8) = if fl = q then v else ((f &&& 0xF0#8 &&& flagMask q) != 0#8) := by
  intro f v fl q
  revert f
  cases v <;> cases fl <;> cases q <;> decide

/-- A flag write is seen by reads of that flag and of no other (R27). -/
@[simp] theorem getFlag_writeFlag (s : State) (fl q : Flag) (v : Bool) :
    (s.writeFlag fl v).getFlag q = if fl = q then v else s.getFlag q := flag_write_read_byte s.f v fl q

@[simp] theorem getFlag_setFlags (s : State) (z n h c : Bool) (q : Flag) :
    (s.setFlags z n h c).getFlag q = match q with | .z => z | .n => n | .h => h | .c => c := by
  cases q <;> simp [State.setFlags]

@[simp] theorem getFlag_setFlagsZNH (s : State) (z n h : Bool) (q : Flag) :
    (s.setFlagsZNH z n h).getFlag q = match q with | .z => z | .n => n | .h => h | .c => s.getFlag .c := by
  cases q <;> simp [State.setFlagsZNH]

@[simp] theorem getFlag_setFlagsNHC (s : State) (n h c : Bool) (q : Flag) :
    (s.setFlagsNHC n h c).getFlag q = match q with | .z => s.getFlag .z | .n => n | .h => h | .c => c := by
  cases q <;> simp [State.setFlagsNHC]

@[simp] theorem getFlag_setFlagsFrom {w : Nat} (s : State) (r : AluResult w) (q : Flag) :
    (s.setFlagsFrom r).getFlag q = match q with | .z => r.z | .n => r.n | .h => r.h | .c => r.c := by
  cases q <;> simp [State.setFlagsFrom]

theorem setFlags_byte : ∀ (f : Byte) (z n h c : Bool),
    ((⟨0, 0, 0, 0, 0, f, 0, 0, 0, 0, .running, false, false, .none, none, [], .handedOff, Config.default⟩ : State).setFlags z n h c).f
      = packFlags z n h c := by
  intro f z n h c
  revert f
  cases z <;> cases n <;> cases h <;> cases c <;> decide

/-- Writing all four flags leaves a byte that does not depend on the old `F`. -/
theorem setFlags_f (s : State) (z n h c : Bool) : (s.setFlags z n h c).f = packFlags z n h c :=
  setFlags_byte s.f z n h c

/-- The byte `F` reads as is determined by its four flags (R25, R26). -/
theorem readF_ext (s t : State) (h : ∀ fl, t.getFlag fl = s.getFlag fl) : t.readF = s.readF := by
  have key : ∀ (x : Byte) (b0 b1 b2 b3 : Bool), ((x &&& 0xF0#8 &&& flagMask .z) != 0#8) = b0 →
      ((x &&& 0xF0#8 &&& flagMask .n) != 0#8) = b1 → ((x &&& 0xF0#8 &&& flagMask .h) != 0#8) = b2 →
      ((x &&& 0xF0#8 &&& flagMask .c) != 0#8) = b3 → x &&& 0xF0#8 = packFlags b0 b1 b2 b3 := by
    intro x b0 b1 b2 b3
    revert x
    cases b0 <;> cases b1 <;> cases b2 <;> cases b3 <;> decide
  have hs := key s.f _ _ _ _ rfl rfl rfl rfl
  have ht := key t.f _ _ _ _ rfl rfl rfl rfl
  have h0 : ((t.f &&& 0xF0#8 &&& flagMask .z) != 0#8) = ((s.f &&& 0xF0#8 &&& flagMask .z) != 0#8) := h .z
  have h1 : ((t.f &&& 0xF0#8 &&& flagMask .n) != 0#8) = ((s.f &&& 0xF0#8 &&& flagMask .n) != 0#8) := h .n
  have h2 : ((t.f &&& 0xF0#8 &&& flagMask .h) != 0#8) = ((s.f &&& 0xF0#8 &&& flagMask .h) != 0#8) := h .h
  have h3 : ((t.f &&& 0xF0#8 &&& flagMask .c) != 0#8) = ((s.f &&& 0xF0#8 &&& flagMask .c) != 0#8) := h .c
  show t.f &&& 0xF0#8 = s.f &&& 0xF0#8
  rw [ht, hs, h0, h1, h2, h3]

/-! ### Bytes and words -/

@[simp] theorem joinBytes_hi_lo (v : Word) : joinBytes (hiByte v) (loByte v) = v := by
  apply BitVec.eq_of_getLsbD_eq
  intro i hi
  simp only [joinBytes, hiByte, loByte, BitVec.getLsbD_or, BitVec.getLsbD_shiftLeft, BitVec.getLsbD_setWidth,
    BitVec.getLsbD_extractLsb']
  by_cases h : i < 8
  · simp [h, hi]
  · have h2 : i - 8 < 8 := by omega
    have h3 : 8 + (i - 8) = i := by omega
    simp [h, hi, h2, h3]
    omega

@[simp] theorem hiByte_joinBytes (x y : Byte) : hiByte (joinBytes x y) = x := by
  apply BitVec.eq_of_getLsbD_eq
  intro i hi
  simp only [joinBytes, hiByte, BitVec.getLsbD_or, BitVec.getLsbD_shiftLeft, BitVec.getLsbD_setWidth,
    BitVec.getLsbD_extractLsb']
  have h1 : 8 + i < 16 := by omega
  simp [hi, h1]
  exact fun _ => by omega

@[simp] theorem loByte_joinBytes (x y : Byte) : loByte (joinBytes x y) = y := by
  apply BitVec.eq_of_getLsbD_eq
  intro i hi
  simp only [joinBytes, loByte, BitVec.getLsbD_or, BitVec.getLsbD_shiftLeft, BitVec.getLsbD_setWidth,
    BitVec.getLsbD_extractLsb']
  have h1 : i < 16 := by omega
  simp [hi]
  exact fun _ => h1

theorem joinBytes_toNat (x y : Byte) : (joinBytes x y).toNat = x.toNat * 256 + y.toNat := by
  have h : joinBytes x y = (x ++ y : BitVec (8 + 8)) := by
    apply BitVec.eq_of_getLsbD_eq
    intro i hi
    simp only [joinBytes, BitVec.getLsbD_or, BitVec.getLsbD_shiftLeft, BitVec.getLsbD_setWidth, BitVec.getLsbD_append]
    by_cases h : i < 8
    · simp [h, hi]
    · have h8 : i - 8 < 8 := by omega
      have h16 : i < 16 := by omega
      have h17 : i - 8 < 16 := by omega
      have hy : BitVec.getLsbD y i = false := BitVec.getLsbD_of_ge y i (by omega)
      simp [h, h8, h16, h17, hy]
  rw [h]
  simp only [BitVec.toNat_append]
  have hy : y.toNat < 2 ^ 8 := y.isLt
  rw [← Nat.shiftLeft_add_eq_or_of_lt hy, Nat.shiftLeft_eq]

/-- A pair reads back as written, but for `AF`, which reads back without its low nibble (R23). -/
theorem getPair_setPair (s : State) (p : Pair) (v : Word) :
    (s.setPair p v).getPair p = if p = .af then v &&& 0xFFF0#16 else v := by
  cases p <;> simp [State.getPair, State.setPair]
  have : loByte v &&& 0xF0#8 = loByte (v &&& 0xFFF0#16) := by
    apply BitVec.eq_of_getLsbD_eq
    intro i hi
    have hb : (0xF0#8)[i] = (0xFFF0#16).getLsbD i := by
      interval_cases i <;> simp
    simp [loByte, hi, hb]
  have hh : hiByte v = hiByte (v &&& 0xFFF0#16) := by
    apply BitVec.eq_of_getLsbD_eq
    intro i hi
    have hb : (0xFFF0#16).getLsbD (8 + i) = true := by
      revert i; decide
    simp [hiByte, hi, hb]
  rw [this, hh, joinBytes_hi_lo]

end Sys2Proof.Machine
end

