-- ==== Sys2Proof/Laws/Memory.lean ====
section
/-! SUPPORT. Laws of memory: a byte reads back as written, every other byte is left alone, every operation keeps the
canonical form, and a write to ROM changes nothing. -/

namespace Sys2Proof.Machine

/-! ### The list -/

theorem Memory.read_erase (m : Memory) (x y : Nat) :
    Memory.read (Memory.erase m x) y = if x = y then 0#8 else Memory.read m y := by
  induction m with
  | nil => simp [Memory.erase, Memory.read]
  | cons cell m ih =>
    obtain ⟨b, v⟩ := cell
    by_cases hb : b = x
    · subst hb
      have : Memory.erase ((b, v) :: m) b = Memory.erase m b := by simp [Memory.erase]
      rw [this, ih]
      by_cases hy : b = y <;> simp [Memory.read, hy]
    · have : Memory.erase ((b, v) :: m) x = (b, v) :: Memory.erase m x := by simp [Memory.erase, hb]
      rw [this]
      simp only [Memory.read]
      by_cases hy : b = y
      · subst hy; simp [Ne.symm hb]
      · simp [hy, ih]

theorem Memory.read_insert (m : Memory) (x y : Nat) (v : Byte) (h : ∀ cell ∈ m, cell.1 ≠ x) :
    Memory.read (Memory.insert m x v) y = if x = y then v else Memory.read m y := by
  induction m with
  | nil => simp [Memory.insert, Memory.read]
  | cons cell m ih =>
    obtain ⟨b, w⟩ := cell
    have hb : b ≠ x := h (b, w) (by simp)
    have ih' := ih (fun c hc => h c (by simp [hc]))
    simp only [Memory.insert]
    split
    · simp [Memory.read]
    · simp only [Memory.read]
      by_cases hy : b = y
      · subst hy; simp [Ne.symm hb]
      · simp [hy, ih']

theorem Memory.mem_erase_ne (m : Memory) (x : Nat) : ∀ cell ∈ Memory.erase m x, cell.1 ≠ x := by
  intro cell h
  have := (List.mem_filter.mp h).2
  simpa using this

/-- A byte reads back as written and every other byte is left alone, in any list of cells. -/
@[simp] theorem Memory.read_write (m : Memory) (x y : Nat) (v : Byte) :
    Memory.read (Memory.write m x v) y = if x = y then v else Memory.read m y := by
  unfold Memory.write
  split
  · next h => rw [Memory.read_erase]; simp [h]
  · rw [Memory.read_insert _ _ _ _ (Memory.mem_erase_ne m x), Memory.read_erase]
    by_cases h : x = y <;> simp [h]

/-! ### The canonical form -/

theorem Memory.wfFrom_mono {lo lo' : Nat} (m : Memory) (h : lo' ≤ lo) (hm : Memory.wfFrom lo m = true) :
    Memory.wfFrom lo' m = true := by
  cases m with
  | nil => rfl
  | cons cell m =>
    obtain ⟨b, v⟩ := cell
    simp only [Memory.wfFrom, Bool.and_eq_true, decide_eq_true_eq] at hm ⊢
    exact ⟨⟨⟨by omega, hm.1.1.2⟩, hm.1.2⟩, hm.2⟩

theorem Memory.wfFrom_filter (p : Host.Cell → Bool) (m : Memory) :
    ∀ lo, Memory.wfFrom lo m = true → Memory.wfFrom lo (m.filter p) = true := by
  induction m with
  | nil => intro lo _; rfl
  | cons cell m ih =>
    obtain ⟨b, v⟩ := cell
    intro lo h
    simp only [Memory.wfFrom, Bool.and_eq_true, decide_eq_true_eq] at h
    by_cases hp : p (b, v) = true
    · simp only [List.filter_cons, hp, if_true, Memory.wfFrom, Bool.and_eq_true, decide_eq_true_eq]
      exact ⟨h.1, ih _ h.2⟩
    · simp only [List.filter_cons, hp]
      exact Memory.wfFrom_mono _ (by omega) (ih _ h.2)

theorem Memory.wfFrom_insert (m : Memory) (x : Nat) (v : Byte) (hv : v ≠ 0#8) (hx : x < 65536) :
    ∀ lo, lo ≤ x → (∀ cell ∈ m, cell.1 ≠ x) → Memory.wfFrom lo m = true →
      Memory.wfFrom lo (Memory.insert m x v) = true := by
  induction m with
  | nil => intro lo hlo _ _; simp [Memory.insert, Memory.wfFrom, hlo, hx, hv]
  | cons cell m ih =>
    obtain ⟨b, w⟩ := cell
    intro lo hlo hne h
    have hb : b ≠ x := hne (b, w) (by simp)
    simp only [Memory.wfFrom, Bool.and_eq_true, decide_eq_true_eq] at h
    simp only [Memory.insert]
    split
    · simp only [Memory.wfFrom, Bool.and_eq_true, decide_eq_true_eq]
      exact ⟨⟨⟨hlo, hx⟩, hv⟩, ⟨⟨by omega, h.1.1.2⟩, h.1.2⟩, h.2⟩
    · simp only [Memory.wfFrom, Bool.and_eq_true, decide_eq_true_eq]
      exact ⟨h.1, ih _ (by omega) (fun c hc => hne c (by simp [hc])) h.2⟩

/-- A write keeps the canonical form. -/
theorem Memory.wf_write (m : Memory) (x : Nat) (v : Byte) (hx : x < 65536) (h : Memory.wf m = true) :
    Memory.wf (Memory.write m x v) = true := by
  have he : Memory.wfFrom 0 (Memory.erase m x) = true := Memory.wfFrom_filter _ m 0 h
  unfold Memory.write
  split
  · exact he
  · next hv => exact Memory.wfFrom_insert _ x v hv hx 0 (Nat.zero_le _) (Memory.mem_erase_ne m x) he

/-- Loading bytes below 65,536 keeps the canonical form. -/
theorem Memory.wf_load (bytes : List Byte) :
    ∀ (m : Memory) (base : Nat), base + bytes.length ≤ 65536 → Memory.wf m = true →
      Memory.wf (Memory.load m base bytes) = true := by
  induction bytes with
  | nil => intro m _ _ h; exact h
  | cons v bytes ih =>
    intro m base hb h
    simp only [List.length_cons] at hb
    exact ih _ _ (by omega) (Memory.wf_write m base v (by omega) h)

/-- What reads back after a load: the bytes loaded, and elsewhere what stood there. -/
theorem Memory.read_load (bytes : List Byte) :
    ∀ (m : Memory) (base x : Nat), Memory.read (Memory.load m base bytes) x =
      if base ≤ x ∧ x < base + bytes.length then bytes.getD (x - base) 0#8 else Memory.read m x := by
  induction bytes with
  | nil => intro m base x; simp [Memory.load]
  | cons v bytes ih =>
    intro m base x
    simp only [Memory.load, ih, Memory.read_write, List.length_cons]
    by_cases h0 : base = x
    · subst h0; simp
    · by_cases h1 : base + 1 ≤ x ∧ x < base + 1 + bytes.length
      · rw [if_pos h1, if_pos (by omega)]
        have : x - base = (x - (base + 1)) + 1 := by omega
        simp [this]
      · rw [if_neg h1, if_neg h0, if_neg (by omega)]

/-- What reads back of a filtered canonical memory: the bytes whose cells are kept. -/
theorem Memory.read_filter_addr (p : Nat → Bool) (m : Memory) (x : Nat) :
    Memory.read (m.filter (fun cell => p cell.1)) x = if p x then Memory.read m x else 0#8 := by
  induction m with
  | nil => simp [Memory.read]
  | cons cell m ih =>
    obtain ⟨b, v⟩ := cell
    by_cases hb : b = x
    · subst hb
      by_cases hp : p b = true
      · simp [hp, Memory.read]
      · simp only [List.filter_cons, hp]
        simpa [hp] using ih
    · by_cases hp : p b = true
      · simp [hp, Memory.read, hb, ih]
      · simp [hp, Memory.read, hb, ih]

/-! ### The address space -/

theorem regionOf_rom_iff (cfg : Config) (x : Word) : regionOf cfg x = .rom ↔ x.toNat ≤ cfg.romEnd.val := by
  unfold regionOf
  split
  · simp [*]
  · split
    · simp [*]
    · split <;> simp [*]

/-- `MemWrite(addr, 1, v)` (R57): what every byte reads as afterwards. -/
@[simp] theorem memRead_memWrite (s : State) (x y : Word) (v : Byte) :
    (s.memWrite x v).memRead y = if x = y ∧ regionOf s.config x ≠ .rom then v else s.memRead y := by
  have key : ∀ t : State, t.mem = s.mem.write x.toNat v → t.memRead y = if x = y then v else s.memRead y := by
    intro t ht
    simp only [State.memRead, ht, Memory.read_write, BitVec.toNat_inj]
  unfold State.memWrite
  split
  · next h => simp [h]
  all_goals
    next h => rw [key _ rfl]; simp [h]

/-- `MemWrite(addr, 2, v)` (R59): what every byte reads as afterwards. -/
theorem memRead_memWrite16 (s : State) (x y : Word) (v : Word) :
    (s.memWrite16 x v).memRead y =
      if x + 1 = y ∧ regionOf s.config (x + 1) ≠ .rom then hiByte v
      else if x = y ∧ regionOf s.config x ≠ .rom then loByte v else s.memRead y := by
  simp [State.memWrite16]

/-- A store keeps the canonical form. -/
theorem wf_memWrite (s : State) (x : Word) (v : Byte) (h : s.mem.wf = true) : (s.memWrite x v).mem.wf = true := by
  unfold State.memWrite
  split
  · exact h
  all_goals exact Memory.wf_write _ _ _ x.isLt h

theorem wf_memWrite16 (s : State) (x v : Word) (h : s.mem.wf = true) : (s.memWrite16 x v).mem.wf = true :=
  wf_memWrite _ _ _ (wf_memWrite _ _ _ h)

theorem wf_push16 (s : State) (v : Word) (h : s.mem.wf = true) : (s.push16 v).mem.wf = true :=
  wf_memWrite16 _ _ _ h

/-- The memory of the machine right after construction is in canonical form. -/
theorem wf_construct (cfg : Config) : (State.construct cfg).mem.wf = true := by
  cases h : cfg.bootProfile <;> simp [State.construct, h, Memory.wf, Memory.wfFrom]

end Sys2Proof.Machine
end

