-- ==== Sys2Proof/Laws/Frames.lean ====
section
/-! SUPPORT. What the shared operations write and leave alone, in the words of the statements: a store, a word store, a
push, a write of an 8-bit operand, a write of a pair. -/

namespace Sys2Proof.Machine

theorem hl_eq (s : State) : hl s = s.getPair .hl := rfl

theorem inRom_iff (s : State) (x : Word) : InRom s x ↔ regionOf s.config x = .rom := (regionOf_rom_iff _ _).symm

/-! ### Addresses -/

theorem addr_succ_ne (x : Word) : x + 1 ≠ x := by bv_omega

theorem addr_sub_two_succ (x : Word) : x - 2 + 1 = x - 1 := by bv_omega

/-! ### Stores -/

/-- A store into a state whose memory and configuration are those of `s` has stored its byte (R57). -/
theorem stored_memWrite {s u : State} (hm : u.mem = s.mem) (hc : u.config = s.config) (x : Word) (v : Byte) :
    Stored s (u.memWrite x v) x v := by
  have hr : ∀ y, u.memRead y = s.memRead y := memRead_congr hm
  constructor <;> intro h <;> rw [inRom_iff] at h <;> simp [hc, h, hr]

theorem sameMemory_memWrite {s u : State} (hm : u.mem = s.mem) (x : Word) (v : Byte) :
    SameMemoryBut s (u.memWrite x v) [x] := by
  have hr : ∀ y, u.memRead y = s.memRead y := memRead_congr hm
  intro y hy
  simp only [List.mem_singleton] at hy
  simp [hr, Ne.symm hy]

/-- The low byte of a word store (R59). -/
theorem stored_low_memWrite16 {s u : State} (hm : u.mem = s.mem) (hc : u.config = s.config) (x v : Word) :
    Stored s (u.memWrite16 x v) x (loByte v) := by
  have hr : ∀ y, u.memRead y = s.memRead y := memRead_congr hm
  constructor <;> intro h <;> rw [inRom_iff] at h <;> simp [memRead_memWrite16, hc, h, hr]

/-- The high byte of a word store, at the next address modulo 2^16 (R59). -/
theorem stored_high_memWrite16 {s u : State} (hm : u.mem = s.mem) (hc : u.config = s.config) (x v : Word) :
    Stored s (u.memWrite16 x v) (x + 1) (hiByte v) := by
  have hr : ∀ y, u.memRead y = s.memRead y := memRead_congr hm
  have hne : ¬ (x = x + 1) := fun h => addr_succ_ne x h.symm
  rw [Stored, inRom_iff, memRead_memWrite16, hc, hr]
  exact ⟨fun h => by rw [if_neg (by simp only [h]; simp), if_neg (fun c => hne c.1)], fun h => by rw [if_pos ⟨rfl, h⟩]⟩

theorem sameMemory_memWrite16 {s u : State} (hm : u.mem = s.mem) (x v : Word) :
    SameMemoryBut s (u.memWrite16 x v) [x, x + 1] := by
  have hr : ∀ y, u.memRead y = s.memRead y := memRead_congr hm
  intro y hy
  simp only [List.mem_cons, List.not_mem_nil, or_false, not_or] at hy
  rw [memRead_memWrite16, if_neg (fun c => hy.2 c.1.symm), if_neg (fun c => hy.1 c.1.symm), hr]

/-- A push changes no byte but the two below `SP` (R62). -/
theorem sameMemory_push16 {s u : State} (hm : u.mem = s.mem) (hs : u.sp = s.sp) (v : Word) :
    SameMemoryBut s (u.push16 v) [s.sp - 2, s.sp - 1] := by
  have h := sameMemory_memWrite16 hm (s.sp - 2) v
  rw [addr_sub_two_succ] at h
  intro y hy
  rw [← h y hy]
  exact memRead_congr (by simp [hs]) y

theorem stored_low_push16 {s u : State} (hm : u.mem = s.mem) (hc : u.config = s.config) (hs : u.sp = s.sp) (v : Word) :
    Stored s (u.push16 v) (s.sp - 2) (loByte v) := by
  have h := stored_low_memWrite16 hm hc (s.sp - 2) v
  have hr : ∀ y, (u.push16 v).memRead y = (u.memWrite16 (s.sp - 2) v).memRead y :=
    memRead_congr (by simp [hs])
  simpa [Stored, hr] using h

theorem stored_high_push16 {s u : State} (hm : u.mem = s.mem) (hc : u.config = s.config) (hs : u.sp = s.sp) (v : Word) :
    Stored s (u.push16 v) (s.sp - 1) (hiByte v) := by
  have h := stored_high_memWrite16 hm hc (s.sp - 2) v
  rw [addr_sub_two_succ] at h
  have hr : ∀ y, (u.push16 v).memRead y = (u.memWrite16 (s.sp - 2) v).memRead y :=
    memRead_congr (by simp [hs])
  simpa [Stored, hr] using h

/-! ### The 8-bit operand -/

@[simp] theorem writeOperand_f (s : State) (o : Operand8) (v : Byte) : (s.writeOperand o v).f = s.f := by
  cases o <;> simp [State.writeOperand]
@[simp] theorem writeOperand_pc (s : State) (o : Operand8) (v : Byte) : (s.writeOperand o v).pc = s.pc := by
  cases o <;> simp [State.writeOperand]
@[simp] theorem writeOperand_sp (s : State) (o : Operand8) (v : Byte) : (s.writeOperand o v).sp = s.sp := by
  cases o <;> simp [State.writeOperand]
@[simp] theorem writeOperand_mode (s : State) (o : Operand8) (v : Byte) : (s.writeOperand o v).mode = s.mode := by
  cases o <;> simp [State.writeOperand]
@[simp] theorem writeOperand_ime (s : State) (o : Operand8) (v : Byte) : (s.writeOperand o v).ime = s.ime := by
  cases o <;> simp [State.writeOperand]
@[simp] theorem writeOperand_imePending (s : State) (o : Operand8) (v : Byte) :
    (s.writeOperand o v).imePending = s.imePending := by cases o <;> simp [State.writeOperand]
@[simp] theorem writeOperand_haltCause (s : State) (o : Operand8) (v : Byte) :
    (s.writeOperand o v).haltCause = s.haltCause := by cases o <;> simp [State.writeOperand]
@[simp] theorem writeOperand_fault (s : State) (o : Operand8) (v : Byte) : (s.writeOperand o v).fault = s.fault := by
  cases o <;> simp [State.writeOperand]
@[simp] theorem writeOperand_romPhase (s : State) (o : Operand8) (v : Byte) :
    (s.writeOperand o v).romPhase = s.romPhase := by cases o <;> simp [State.writeOperand]
@[simp] theorem writeOperand_config (s : State) (o : Operand8) (v : Byte) : (s.writeOperand o v).config = s.config := by
  cases o <;> simp [State.writeOperand]
@[simp] theorem writeOperand_getFlag (s : State) (o : Operand8) (v : Byte) (fl : Flag) :
    (s.writeOperand o v).getFlag fl = s.getFlag fl := getFlag_congr (by simp) fl

/-- What a read of the operand gives (R90, R94). -/
theorem readOperand_eq (s : State) (o : Operand8) : s.readOperand o = o.value s := by cases o <;> rfl

/-- A write of the operand has written it, whatever is done to other registers of the state before (R90, R94). -/
theorem wrote_writeOperand (s : State) (o : Operand8) (n : Nat) (v : Byte) :
    o.Wrote s ((s.advance n).writeOperand o v) v := by
  cases o with
  | reg r => simp [Operand8.Wrote, State.writeOperand]
  | atHL => exact stored_memWrite (u := s.advance n) rfl rfl _ _

theorem sameRegs_writeOperand (s : State) (o : Operand8) (n : Nat) (v : Byte) :
    SameRegsBut s ((s.advance n).writeOperand o v) o.regs := by
  cases o with
  | reg r =>
    intro q hq
    simp only [Operand8.regs, List.mem_singleton] at hq
    simp [State.writeOperand, Ne.symm hq]
  | atHL => intro q _; simp [State.writeOperand]

theorem sameMemory_writeOperand (s : State) (o : Operand8) (n : Nat) (v : Byte) :
    SameMemoryBut s ((s.advance n).writeOperand o v) (o.addrs s) := by
  cases o with
  | reg r => intro x _; exact memRead_congr (by simp [State.writeOperand]) x
  | atHL => exact sameMemory_memWrite (u := s.advance n) rfl _ _

theorem wf_writeOperand (s : State) (o : Operand8) (v : Byte) (h : s.mem.wf = true) :
    (s.writeOperand o v).mem.wf = true := by
  cases o with
  | reg r => simpa [State.writeOperand] using h
  | atHL => exact wf_memWrite _ _ _ h

/-! ### Pairs -/

theorem sameRegs_setPair (s : State) (p : Pair) (v : Word) : SameRegsBut s (s.setPair p v) p.regs := by
  intro q hq
  cases p <;> cases q <;> simp_all [Pair.regs]

theorem sameFlags_setPair (s : State) (p : Pair) (v : Word) : SameFlagsBut s (s.setPair p v) p.flags := by
  intro fl hfl
  cases p with
  | af => cases fl <;> simp [Pair.flags] at hfl
  | _ => exact getFlag_congr (by simp) fl

theorem sameRegs_setReg16 (s : State) (r : Reg16) (v : Word) : SameRegsBut s (s.setReg16 r v) r.regs := by
  intro q hq
  cases r <;> cases q <;> simp_all [Reg16.regs]

theorem getReg16_setReg16 (s : State) (r : Reg16) (v : Word) : (s.setReg16 r v).getReg16 r = v := by
  cases r <;> simp [getPair_setPair]

end Sys2Proof.Machine
end

