-- ==== Sys2Proof/Laws/Step.lean ====
section
/-! SUPPORT. What a step and a ROM hand-off can do, once: the cases every statement about `step` and `handOff` splits on. -/

namespace Sys2Proof.Machine

/-! ### The step -/

/-- The step of a Running core whose ROM has been handed off (R85). -/
theorem step_running {s : State} (hm : s.mode = .running) (hr : s.romPhase = .handedOff) :
    step s = match exec s.fetchInstr s with
      | .next t => .next (t.commitDelayedEi s.imePending)
      | .fault r => .fault r
      | .refused r => .refused r := by
  cases hx : exec s.fetchInstr s <;> simp only [step, hm, hr, hx]

/-- Without a ROM image a Running core does not step (R332, R333). -/
theorem step_without_rom {s : State} (hm : s.mode = .running) (hr : s.romPhase ≠ .handedOff) :
    step s = .refused .noRomImage := by
  cases h : s.romPhase <;> simp_all [step]

/-- All a step that answers a next state can be: nothing, outside Running (R88), or the decoded instruction and the commit
of a delayed `EI`, after the hand-off (R85). -/
theorem step_cases {s t : State} (h : step s = .next t) :
    (s.mode ≠ .running ∧ t = s) ∨
    (s.mode = .running ∧ s.romPhase = .handedOff ∧
      ∃ u, exec s.fetchInstr s = .next u ∧ t = u.commitDelayedEi s.imePending) := by
  cases hm : s.mode with
  | running =>
    by_cases hr : s.romPhase = .handedOff
    · rw [step_running hm hr] at h
      cases hx : exec s.fetchInstr s with
      | next u => rw [hx] at h; cases h; exact .inr ⟨rfl, hr, u, rfl, rfl⟩
      | fault r => rw [hx] at h; cases h
      | refused r => rw [hx] at h; cases h
    · rw [step_without_rom hm hr] at h; cases h
  | halted => simp only [step, hm] at h; cases h; exact .inl ⟨by simp, rfl⟩
  | faulted => simp only [step, hm] at h; cases h; exact .inl ⟨by simp, rfl⟩

/-! ### The hand-off -/

/-- All a hand-off can be (R55, R333). -/
theorem handOff_cases (s : State) (img : List Byte) :
    (s.romPhase ≠ .awaiting ∧ s.handOff img = { state := s, refusal := some .notTheFirst }) ∨
    (s.romPhase = .awaiting ∧ s.config.romEnd.val + 1 < img.length ∧
      s.handOff img = { state := { s with romPhase := .refused }, refusal := some (.imageTooLong img.length) }) ∨
    (s.romPhase = .awaiting ∧ img.length ≤ s.config.romEnd.val + 1 ∧
      s.handOff img =
        { state := { s with mem := s.mem.loadRom s.config.romEnd.val img, romPhase := .handedOff }, refusal := none }) := by
  cases h : s.romPhase with
  | awaiting =>
    by_cases hl : img.length ≤ s.config.romEnd.val + 1
    · exact .inr (.inr ⟨rfl, hl, by simp [State.handOff, h, hl]⟩)
    · exact .inr (.inl ⟨rfl, by omega, by simp [State.handOff, h, hl]⟩)
  | handedOff => exact .inl ⟨by simp, by simp [State.handOff, h]⟩
  | refused => exact .inl ⟨by simp, by simp [State.handOff, h]⟩

/-- What a byte reads as once the image is in the ROM region (R55). -/
theorem Memory.read_loadRom (m : Memory) (romEnd x : Nat) (img : List Byte) :
    Memory.read (m.loadRom romEnd img) x =
      if x < img.length then img.getD x 0#8 else if x ≤ romEnd then 0#8 else Memory.read m x := by
  rw [Memory.loadRom, Memory.read_load, Memory.read_filter_addr (fun a => decide (romEnd < a))]
  by_cases h1 : x < img.length
  · simp [h1]
  · by_cases h2 : x ≤ romEnd <;> simp [h1, h2]

/-- The hand-off keeps the canonical form. -/
theorem Memory.wf_loadRom (m : Memory) (romEnd : Nat) (img : List Byte) (h : img.length ≤ romEnd + 1)
    (he : romEnd < 65535) (hm : m.wf = true) : (m.loadRom romEnd img).wf = true :=
  Memory.wf_load img _ 0 (by omega) (Memory.wfFrom_filter _ m 0 hm)

/-- The hand-off keeps the invariant of the machine. -/
theorem handOff_keeps_inv (s : State) (img : List Byte) (h : s.Inv) : (s.handOff img).state.Inv := by
  have hlt := s.config.romEnd.isLt
  obtain ⟨hmode, hflags, hmem, hload⟩ := h
  obtain ⟨-, e⟩ | ⟨ha, -, e⟩ | ⟨-, hl, e⟩ := handOff_cases s img
  · rw [e]; exact ⟨hmode, hflags, hmem, hload⟩
  · rw [e]
    refine ⟨hmode, hflags, hmem, fun _ => ?_⟩
    have hs := hload (by rw [ha]; simp)
    exact congrArg (fun u : State => { u with romPhase := .refused }) hs
  · rw [e]
    exact ⟨hmode, hflags, Memory.wf_loadRom _ _ _ hl (by omega) hmem, fun hn => absurd rfl hn⟩

end Sys2Proof.Machine
end

