-- ==== Sys2Proof/Tests/Slice0.lean ====
section
/-! SUPPORT. Tests of the model on the spec's own vectors (95_test_vectors.md §L2), of the decoder on the opcode table, of
well-formedness on ill-formed terms, and a witness for the hypotheses of every statement that has any. Every expected
value is the spec's. -/

namespace Sys2Proof.Tests

open Sys2Proof Sys2Proof.Machine

/-! ### Helpers -/

/-- The start state "boot" of the vectors: construction under the default configuration and the hand-off of an image of
zeros; a vector's own ROM bytes are placed by `stepOn`. -/
def boot : State := (start Config.default []).state

/-- One step from `s` with `bytes` placed at its `PC`. -/
def stepOn (bytes : List Byte) (s : State) : Option State :=
  match step { s with mem := s.mem.load s.pc.toNat bytes } with
  | .next t => some t
  | .fault _ => none
  | .refused _ => none

/-- One step from `s` with `bytes` placed at its `PC` answers a next state that passes the check. -/
abbrev EndsIn (bytes : List Byte) (s : State) (check : State → Bool) : Prop := (stepOn bytes s).any check = true

/-- What a byte of the main page decodes to with 0x34 0x12 after it. -/
def decodedMain (b : Byte) : Instr := decodeBytes Config.default b 0x34 0x12

/-- What a second byte of the CB page decodes to. -/
def decodedCb (b : Byte) : Instr := decodeBytes Config.default 0xCB b 0x00

/-- The configuration with the CB page absent. -/
def absentPage : Config := { Config.default with cbPage := .absent }

/-- The configuration with a one-byte `STOP`. -/
def shortStop : Config := { Config.default with stopLength := .one }

/-- The configuration with the smallest ROM region, the one address 0x0000. -/
def smallestRom : Config := { Config.default with romEnd := 0 }

/-! ### Well-formedness: an ill-formed term for each check -/

theorem test_mapped_byte_is_not_unmapped : (Instr.unmapped 0x00).wellFormed Config.default = false := rfl
theorem test_prefix_byte_is_not_unmapped : (Instr.unmapped 0xCB).wellFormed absentPage = false := rfl
theorem test_long_stop_needs_its_byte : (Instr.stop none).wellFormed Config.default = false := rfl
theorem test_short_stop_has_no_byte : (Instr.stop (some 0x00)).wellFormed shortStop = false := rfl
theorem test_prefix_needs_the_page_absent : Instr.prefixCB.wellFormed Config.default = false := rfl
theorem test_cb_instruction_needs_the_page : Instr.swap_A.wellFormed absentPage = false := rfl

/-! ### Decoding: the words of the spec -/

/-- Words written bit by bit from the encodings of R110, R111, R140, R144, R146, R163, R167, R170–R173, R190, R191, R206,
R221, R230, R240–R242, R252, R253, R261, R263 and R264. -/
theorem test_words_bit_by_bit :
    decode Config.default [0b01000001] = .ok (.ld_B_C, []) ∧
    decode Config.default [0b00011110, 0x9C] = .ok (.ld_E_n 0x9C, []) ∧
    decode Config.default [0b00110001, 0x00, 0xE0] = .ok (.ld_SP_nn 0xE000, []) ∧
    decode Config.default [0b11110101] = .ok (.push_AF, []) ∧
    decode Config.default [0b11010001] = .ok (.pop_DE, []) ∧
    decode Config.default [0b10000110] = .ok (.add_A_atHL, []) ∧
    decode Config.default [0b11100110, 0x0F] = .ok (.and_n 0x0F, []) ∧
    decode Config.default [0b10111000] = .ok (.cp_B, []) ∧
    decode Config.default [0b00111100] = .ok (.inc_A, []) ∧
    decode Config.default [0b00010101] = .ok (.dec_D, []) ∧
    decode Config.default [0b00101001] = .ok (.add_HL_HL, []) ∧
    decode Config.default [0b00110011] = .ok (.inc_SP, []) ∧
    decode Config.default [0b00101111] = .ok (.cpl, []) ∧
    decode Config.default [0b00001111] = .ok (.rrca, []) ∧
    decode Config.default [0xCB, 0b00101000] = .ok (.sra_B, []) ∧
    decode Config.default [0xCB, 0b01011110] = .ok (.bit_3_atHL, []) ∧
    decode Config.default [0xCB, 0b10000110] = .ok (.res_0_atHL, []) ∧
    decode Config.default [0xCB, 0b11000001] = .ok (.set_0_C, []) ∧
    decode Config.default [0b11010010, 0x00, 0x02] = .ok (.jp_NC_nn 0x0200, []) ∧
    decode Config.default [0b00101000, 0xF0] = .ok (.jr_Z_e 0xF0, []) ∧
    decode Config.default [0b11011100, 0x00, 0x02] = .ok (.call_C_nn 0x0200, []) ∧
    decode Config.default [0b11000000] = .ok (.ret_NZ, []) ∧
    decode Config.default [0b11101111] = .ok (.rst_28, []) := by
  refine ⟨?_, ?_, ?_, ?_, ?_, ?_, ?_, ?_, ?_, ?_, ?_, ?_, ?_, ?_, ?_, ?_, ?_, ?_, ?_, ?_, ?_, ?_, ?_⟩ <;> rfl

/-- A list that ends inside an instruction is not decoded, and an empty one neither. -/
theorem test_truncated_lists_are_rejected :
    decode Config.default [] = .error .noBytes ∧ decode Config.default [0xC3, 0x00] = .error (.truncated 0xC3) ∧
    decode Config.default [0xCB] = .error (.truncated 0xCB) := ⟨rfl, rfl, rfl⟩

/-- The table's own numbering of a main-page and of a CB-page row (log entry 2). -/
theorem test_table_words :
    decodeTableWord 8 0x76 = some .halt ∧ decodeTableWord 24 0x1234C3 = some (.jp_nn 0x1234) ∧
    decodeTableWord 16 0xCB37 = some .swap_A ∧ decodeTableWord 16 0x34C6 = some (.add_A_n 0x34) := ⟨rfl, rfl, rfl, rfl⟩

/-- R95, row 0x0 of the main page, every byte followed by 0x34 0x12. -/
theorem test_decode_main_0x :
    ([0x00, 0x01, 0x02, 0x03, 0x04, 0x05, 0x06, 0x07, 0x08, 0x09, 0x0A, 0x0B, 0x0C, 0x0D, 0x0E, 0x0F] : List Byte).map decodedMain =
    [.nop, .ld_BC_nn 0x1234, .ld_atBC_A, .inc_BC, .inc_B, .dec_B, .ld_B_n 0x34, .rlca, .ld_atNN_SP 0x1234,
     .add_HL_BC, .ld_A_atBC, .dec_BC, .inc_C, .dec_C, .ld_C_n 0x34, .rrca] := rfl

/-- R95, row 0x1 of the main page, every byte followed by 0x34 0x12. -/
theorem test_decode_main_1x :
    ([0x10, 0x11, 0x12, 0x13, 0x14, 0x15, 0x16, 0x17, 0x18, 0x19, 0x1A, 0x1B, 0x1C, 0x1D, 0x1E, 0x1F] : List Byte).map decodedMain =
    [.stop (some 0x34), .ld_DE_nn 0x1234, .ld_atDE_A, .inc_DE, .inc_D, .dec_D, .ld_D_n 0x34, .rla, .jr_e 0x34,
     .add_HL_DE, .ld_A_atDE, .dec_DE, .inc_E, .dec_E, .ld_E_n 0x34, .rra] := rfl

/-- R95, row 0x2 of the main page, every byte followed by 0x34 0x12. -/
theorem test_decode_main_2x :
    ([0x20, 0x21, 0x22, 0x23, 0x24, 0x25, 0x26, 0x27, 0x28, 0x29, 0x2A, 0x2B, 0x2C, 0x2D, 0x2E, 0x2F] : List Byte).map decodedMain =
    [.jr_NZ_e 0x34, .ld_HL_nn 0x1234, .ld_atHLinc_A, .inc_HL, .inc_H, .dec_H, .ld_H_n 0x34, .daa, .jr_Z_e 0x34,
     .add_HL_HL, .ld_A_atHLinc, .dec_HL, .inc_L, .dec_L, .ld_L_n 0x34, .cpl] := rfl

/-- R95, row 0x3 of the main page, every byte followed by 0x34 0x12. -/
theorem test_decode_main_3x :
    ([0x30, 0x31, 0x32, 0x33, 0x34, 0x35, 0x36, 0x37, 0x38, 0x39, 0x3A, 0x3B, 0x3C, 0x3D, 0x3E, 0x3F] : List Byte).map decodedMain =
    [.jr_NC_e 0x34, .ld_SP_nn 0x1234, .ld_atHLdec_A, .inc_SP, .inc_atHL, .dec_atHL, .ld_atHL_n 0x34, .scf,
     .jr_C_e 0x34, .add_HL_SP, .ld_A_atHLdec, .dec_SP, .inc_A, .dec_A, .ld_A_n 0x34, .ccf] := rfl

/-- R95, row 0x4 of the main page, every byte followed by 0x34 0x12. -/
theorem test_decode_main_4x :
    ([0x40, 0x41, 0x42, 0x43, 0x44, 0x45, 0x46, 0x47, 0x48, 0x49, 0x4A, 0x4B, 0x4C, 0x4D, 0x4E, 0x4F] : List Byte).map decodedMain =
    [.ld_B_B, .ld_B_C, .ld_B_D, .ld_B_E, .ld_B_H, .ld_B_L, .ld_B_atHL, .ld_B_A, .ld_C_B, .ld_C_C, .ld_C_D, .ld_C_E,
     .ld_C_H, .ld_C_L, .ld_C_atHL, .ld_C_A] := rfl

/-- R95, row 0x5 of the main page, every byte followed by 0x34 0x12. -/
theorem test_decode_main_5x :
    ([0x50, 0x51, 0x52, 0x53, 0x54, 0x55, 0x56, 0x57, 0x58, 0x59, 0x5A, 0x5B, 0x5C, 0x5D, 0x5E, 0x5F] : List Byte).map decodedMain =
    [.ld_D_B, .ld_D_C, .ld_D_D, .ld_D_E, .ld_D_H, .ld_D_L, .ld_D_atHL, .ld_D_A, .ld_E_B, .ld_E_C, .ld_E_D, .ld_E_E,
     .ld_E_H, .ld_E_L, .ld_E_atHL, .ld_E_A] := rfl

/-- R95, row 0x6 of the main page, every byte followed by 0x34 0x12. -/
theorem test_decode_main_6x :
    ([0x60, 0x61, 0x62, 0x63, 0x64, 0x65, 0x66, 0x67, 0x68, 0x69, 0x6A, 0x6B, 0x6C, 0x6D, 0x6E, 0x6F] : List Byte).map decodedMain =
    [.ld_H_B, .ld_H_C, .ld_H_D, .ld_H_E, .ld_H_H, .ld_H_L, .ld_H_atHL, .ld_H_A, .ld_L_B, .ld_L_C, .ld_L_D, .ld_L_E,
     .ld_L_H, .ld_L_L, .ld_L_atHL, .ld_L_A] := rfl

/-- R95, row 0x7 of the main page, every byte followed by 0x34 0x12. -/
theorem test_decode_main_7x :
    ([0x70, 0x71, 0x72, 0x73, 0x74, 0x75, 0x76, 0x77, 0x78, 0x79, 0x7A, 0x7B, 0x7C, 0x7D, 0x7E, 0x7F] : List Byte).map decodedMain =
    [.ld_atHL_B, .ld_atHL_C, .ld_atHL_D, .ld_atHL_E, .ld_atHL_H, .ld_atHL_L, .halt, .ld_atHL_A, .ld_A_B, .ld_A_C,
     .ld_A_D, .ld_A_E, .ld_A_H, .ld_A_L, .ld_A_atHL, .ld_A_A] := rfl

/-- R95, row 0x8 of the main page, every byte followed by 0x34 0x12. -/
theorem test_decode_main_8x :
    ([0x80, 0x81, 0x82, 0x83, 0x84, 0x85, 0x86, 0x87, 0x88, 0x89, 0x8A, 0x8B, 0x8C, 0x8D, 0x8E, 0x8F] : List Byte).map decodedMain =
    [.add_A_B, .add_A_C, .add_A_D, .add_A_E, .add_A_H, .add_A_L, .add_A_atHL, .add_A_A, .adc_A_B, .adc_A_C, .adc_A_D,
     .adc_A_E, .adc_A_H, .adc_A_L, .adc_A_atHL, .adc_A_A] := rfl

/-- R95, row 0x9 of the main page, every byte followed by 0x34 0x12. -/
theorem test_decode_main_9x :
    ([0x90, 0x91, 0x92, 0x93, 0x94, 0x95, 0x96, 0x97, 0x98, 0x99, 0x9A, 0x9B, 0x9C, 0x9D, 0x9E, 0x9F] : List Byte).map decodedMain =
    [.sub_B, .sub_C, .sub_D, .sub_E, .sub_H, .sub_L, .sub_atHL, .sub_A, .sbc_A_B, .sbc_A_C, .sbc_A_D, .sbc_A_E,
     .sbc_A_H, .sbc_A_L, .sbc_A_atHL, .sbc_A_A] := rfl

/-- R95, row 0xA of the main page, every byte followed by 0x34 0x12. -/
theorem test_decode_main_Ax :
    ([0xA0, 0xA1, 0xA2, 0xA3, 0xA4, 0xA5, 0xA6, 0xA7, 0xA8, 0xA9, 0xAA, 0xAB, 0xAC, 0xAD, 0xAE, 0xAF] : List Byte).map decodedMain =
    [.and_B, .and_C, .and_D, .and_E, .and_H, .and_L, .and_atHL, .and_A, .xor_B, .xor_C, .xor_D, .xor_E, .xor_H,
     .xor_L, .xor_atHL, .xor_A] := rfl

/-- R95, row 0xB of the main page, every byte followed by 0x34 0x12. -/
theorem test_decode_main_Bx :
    ([0xB0, 0xB1, 0xB2, 0xB3, 0xB4, 0xB5, 0xB6, 0xB7, 0xB8, 0xB9, 0xBA, 0xBB, 0xBC, 0xBD, 0xBE, 0xBF] : List Byte).map decodedMain =
    [.or_B, .or_C, .or_D, .or_E, .or_H, .or_L, .or_atHL, .or_A, .cp_B, .cp_C, .cp_D, .cp_E, .cp_H, .cp_L, .cp_atHL,
     .cp_A] := rfl

/-- R95, row 0xC of the main page, every byte followed by 0x34 0x12. -/
theorem test_decode_main_Cx :
    ([0xC0, 0xC1, 0xC2, 0xC3, 0xC4, 0xC5, 0xC6, 0xC7, 0xC8, 0xC9, 0xCA, 0xCB, 0xCC, 0xCD, 0xCE, 0xCF] : List Byte).map decodedMain =
    [.ret_NZ, .pop_BC, .jp_NZ_nn 0x1234, .jp_nn 0x1234, .call_NZ_nn 0x1234, .push_BC, .add_A_n 0x34, .rst_00, .ret_Z,
     .ret, .jp_Z_nn 0x1234, .swap_H, .call_Z_nn 0x1234, .call_nn 0x1234, .adc_A_n 0x34, .rst_08] := rfl

/-- R95, row 0xD of the main page, every byte followed by 0x34 0x12. -/
theorem test_decode_main_Dx :
    ([0xD0, 0xD1, 0xD2, 0xD3, 0xD4, 0xD5, 0xD6, 0xD7, 0xD8, 0xD9, 0xDA, 0xDB, 0xDC, 0xDD, 0xDE, 0xDF] : List Byte).map decodedMain =
    [.ret_NC, .pop_DE, .jp_NC_nn 0x1234, .unmapped 0xD3, .call_NC_nn 0x1234, .push_DE, .sub_n 0x34, .rst_10, .ret_C,
     .reti, .jp_C_nn 0x1234, .unmapped 0xDB, .call_C_nn 0x1234, .unmapped 0xDD, .sbc_A_n 0x34, .rst_18] := rfl

/-- R95, row 0xE of the main page, every byte followed by 0x34 0x12. -/
theorem test_decode_main_Ex :
    ([0xE0, 0xE1, 0xE2, 0xE3, 0xE4, 0xE5, 0xE6, 0xE7, 0xE8, 0xE9, 0xEA, 0xEB, 0xEC, 0xED, 0xEE, 0xEF] : List Byte).map decodedMain =
    [.ldh_atN_A 0x34, .pop_HL, .ld_atC_A, .unmapped 0xE3, .unmapped 0xE4, .push_HL, .and_n 0x34, .rst_20,
     .add_SP_e 0x34, .jp_HL, .ld_atNN_A 0x1234, .unmapped 0xEB, .unmapped 0xEC, .unmapped 0xED, .xor_n 0x34, .rst_28] := rfl

/-- R95, row 0xF of the main page, every byte followed by 0x34 0x12. -/
theorem test_decode_main_Fx :
    ([0xF0, 0xF1, 0xF2, 0xF3, 0xF4, 0xF5, 0xF6, 0xF7, 0xF8, 0xF9, 0xFA, 0xFB, 0xFC, 0xFD, 0xFE, 0xFF] : List Byte).map decodedMain =
    [.ldh_A_atN 0x34, .pop_AF, .ld_A_atC, .di, .unmapped 0xF4, .push_AF, .or_n 0x34, .rst_30, .ld_HL_SPe 0x34,
     .ld_SP_HL, .ld_A_atNN 0x1234, .ei, .unmapped 0xFC, .unmapped 0xFD, .cp_n 0x34, .rst_38] := rfl

/-- R96, second bytes 0x00 to 0x0F of the CB page. -/
theorem test_decode_cb_0x :
    ([0x00, 0x01, 0x02, 0x03, 0x04, 0x05, 0x06, 0x07, 0x08, 0x09, 0x0A, 0x0B, 0x0C, 0x0D, 0x0E, 0x0F] : List Byte).map decodedCb =
    [.rlc_B, .rlc_C, .rlc_D, .rlc_E, .rlc_H, .rlc_L, .rlc_atHL, .rlc_A, .rrc_B, .rrc_C, .rrc_D, .rrc_E, .rrc_H,
     .rrc_L, .rrc_atHL, .rrc_A] := rfl

/-- R96, second bytes 0x10 to 0x1F of the CB page. -/
theorem test_decode_cb_1x :
    ([0x10, 0x11, 0x12, 0x13, 0x14, 0x15, 0x16, 0x17, 0x18, 0x19, 0x1A, 0x1B, 0x1C, 0x1D, 0x1E, 0x1F] : List Byte).map decodedCb =
    [.rl_B, .rl_C, .rl_D, .rl_E, .rl_H, .rl_L, .rl_atHL, .rl_A, .rr_B, .rr_C, .rr_D, .rr_E, .rr_H, .rr_L, .rr_atHL,
     .rr_A] := rfl

/-- R96, second bytes 0x20 to 0x2F of the CB page. -/
theorem test_decode_cb_2x :
    ([0x20, 0x21, 0x22, 0x23, 0x24, 0x25, 0x26, 0x27, 0x28, 0x29, 0x2A, 0x2B, 0x2C, 0x2D, 0x2E, 0x2F] : List Byte).map decodedCb =
    [.sla_B, .sla_C, .sla_D, .sla_E, .sla_H, .sla_L, .sla_atHL, .sla_A, .sra_B, .sra_C, .sra_D, .sra_E, .sra_H,
     .sra_L, .sra_atHL, .sra_A] := rfl

/-- R96, second bytes 0x30 to 0x3F of the CB page. -/
theorem test_decode_cb_3x :
    ([0x30, 0x31, 0x32, 0x33, 0x34, 0x35, 0x36, 0x37, 0x38, 0x39, 0x3A, 0x3B, 0x3C, 0x3D, 0x3E, 0x3F] : List Byte).map decodedCb =
    [.swap_B, .swap_C, .swap_D, .swap_E, .swap_H, .swap_L, .swap_atHL, .swap_A, .srl_B, .srl_C, .srl_D, .srl_E,
     .srl_H, .srl_L, .srl_atHL, .srl_A] := rfl

/-- R96, second bytes 0x40 to 0x4F of the CB page. -/
theorem test_decode_cb_4x :
    ([0x40, 0x41, 0x42, 0x43, 0x44, 0x45, 0x46, 0x47, 0x48, 0x49, 0x4A, 0x4B, 0x4C, 0x4D, 0x4E, 0x4F] : List Byte).map decodedCb =
    [.bit_0_B, .bit_0_C, .bit_0_D, .bit_0_E, .bit_0_H, .bit_0_L, .bit_0_atHL, .bit_0_A, .bit_1_B, .bit_1_C, .bit_1_D,
     .bit_1_E, .bit_1_H, .bit_1_L, .bit_1_atHL, .bit_1_A] := rfl

/-- R96, second bytes 0x50 to 0x5F of the CB page. -/
theorem test_decode_cb_5x :
    ([0x50, 0x51, 0x52, 0x53, 0x54, 0x55, 0x56, 0x57, 0x58, 0x59, 0x5A, 0x5B, 0x5C, 0x5D, 0x5E, 0x5F] : List Byte).map decodedCb =
    [.bit_2_B, .bit_2_C, .bit_2_D, .bit_2_E, .bit_2_H, .bit_2_L, .bit_2_atHL, .bit_2_A, .bit_3_B, .bit_3_C, .bit_3_D,
     .bit_3_E, .bit_3_H, .bit_3_L, .bit_3_atHL, .bit_3_A] := rfl

/-- R96, second bytes 0x60 to 0x6F of the CB page. -/
theorem test_decode_cb_6x :
    ([0x60, 0x61, 0x62, 0x63, 0x64, 0x65, 0x66, 0x67, 0x68, 0x69, 0x6A, 0x6B, 0x6C, 0x6D, 0x6E, 0x6F] : List Byte).map decodedCb =
    [.bit_4_B, .bit_4_C, .bit_4_D, .bit_4_E, .bit_4_H, .bit_4_L, .bit_4_atHL, .bit_4_A, .bit_5_B, .bit_5_C, .bit_5_D,
     .bit_5_E, .bit_5_H, .bit_5_L, .bit_5_atHL, .bit_5_A] := rfl

/-- R96, second bytes 0x70 to 0x7F of the CB page. -/
theorem test_decode_cb_7x :
    ([0x70, 0x71, 0x72, 0x73, 0x74, 0x75, 0x76, 0x77, 0x78, 0x79, 0x7A, 0x7B, 0x7C, 0x7D, 0x7E, 0x7F] : List Byte).map decodedCb =
    [.bit_6_B, .bit_6_C, .bit_6_D, .bit_6_E, .bit_6_H, .bit_6_L, .bit_6_atHL, .bit_6_A, .bit_7_B, .bit_7_C, .bit_7_D,
     .bit_7_E, .bit_7_H, .bit_7_L, .bit_7_atHL, .bit_7_A] := rfl

/-- R96, second bytes 0x80 to 0x8F of the CB page. -/
theorem test_decode_cb_8x :
    ([0x80, 0x81, 0x82, 0x83, 0x84, 0x85, 0x86, 0x87, 0x88, 0x89, 0x8A, 0x8B, 0x8C, 0x8D, 0x8E, 0x8F] : List Byte).map decodedCb =
    [.res_0_B, .res_0_C, .res_0_D, .res_0_E, .res_0_H, .res_0_L, .res_0_atHL, .res_0_A, .res_1_B, .res_1_C, .res_1_D,
     .res_1_E, .res_1_H, .res_1_L, .res_1_atHL, .res_1_A] := rfl

/-- R96, second bytes 0x90 to 0x9F of the CB page. -/
theorem test_decode_cb_9x :
    ([0x90, 0x91, 0x92, 0x93, 0x94, 0x95, 0x96, 0x97, 0x98, 0x99, 0x9A, 0x9B, 0x9C, 0x9D, 0x9E, 0x9F] : List Byte).map decodedCb =
    [.res_2_B, .res_2_C, .res_2_D, .res_2_E, .res_2_H, .res_2_L, .res_2_atHL, .res_2_A, .res_3_B, .res_3_C, .res_3_D,
     .res_3_E, .res_3_H, .res_3_L, .res_3_atHL, .res_3_A] := rfl

/-- R96, second bytes 0xA0 to 0xAF of the CB page. -/
theorem test_decode_cb_Ax :
    ([0xA0, 0xA1, 0xA2, 0xA3, 0xA4, 0xA5, 0xA6, 0xA7, 0xA8, 0xA9, 0xAA, 0xAB, 0xAC, 0xAD, 0xAE, 0xAF] : List Byte).map decodedCb =
    [.res_4_B, .res_4_C, .res_4_D, .res_4_E, .res_4_H, .res_4_L, .res_4_atHL, .res_4_A, .res_5_B, .res_5_C, .res_5_D,
     .res_5_E, .res_5_H, .res_5_L, .res_5_atHL, .res_5_A] := rfl

/-- R96, second bytes 0xB0 to 0xBF of the CB page. -/
theorem test_decode_cb_Bx :
    ([0xB0, 0xB1, 0xB2, 0xB3, 0xB4, 0xB5, 0xB6, 0xB7, 0xB8, 0xB9, 0xBA, 0xBB, 0xBC, 0xBD, 0xBE, 0xBF] : List Byte).map decodedCb =
    [.res_6_B, .res_6_C, .res_6_D, .res_6_E, .res_6_H, .res_6_L, .res_6_atHL, .res_6_A, .res_7_B, .res_7_C, .res_7_D,
     .res_7_E, .res_7_H, .res_7_L, .res_7_atHL, .res_7_A] := rfl

/-- R96, second bytes 0xC0 to 0xCF of the CB page. -/
theorem test_decode_cb_Cx :
    ([0xC0, 0xC1, 0xC2, 0xC3, 0xC4, 0xC5, 0xC6, 0xC7, 0xC8, 0xC9, 0xCA, 0xCB, 0xCC, 0xCD, 0xCE, 0xCF] : List Byte).map decodedCb =
    [.set_0_B, .set_0_C, .set_0_D, .set_0_E, .set_0_H, .set_0_L, .set_0_atHL, .set_0_A, .set_1_B, .set_1_C, .set_1_D,
     .set_1_E, .set_1_H, .set_1_L, .set_1_atHL, .set_1_A] := rfl

/-- R96, second bytes 0xD0 to 0xDF of the CB page. -/
theorem test_decode_cb_Dx :
    ([0xD0, 0xD1, 0xD2, 0xD3, 0xD4, 0xD5, 0xD6, 0xD7, 0xD8, 0xD9, 0xDA, 0xDB, 0xDC, 0xDD, 0xDE, 0xDF] : List Byte).map decodedCb =
    [.set_2_B, .set_2_C, .set_2_D, .set_2_E, .set_2_H, .set_2_L, .set_2_atHL, .set_2_A, .set_3_B, .set_3_C, .set_3_D,
     .set_3_E, .set_3_H, .set_3_L, .set_3_atHL, .set_3_A] := rfl

/-- R96, second bytes 0xE0 to 0xEF of the CB page. -/
theorem test_decode_cb_Ex :
    ([0xE0, 0xE1, 0xE2, 0xE3, 0xE4, 0xE5, 0xE6, 0xE7, 0xE8, 0xE9, 0xEA, 0xEB, 0xEC, 0xED, 0xEE, 0xEF] : List Byte).map decodedCb =
    [.set_4_B, .set_4_C, .set_4_D, .set_4_E, .set_4_H, .set_4_L, .set_4_atHL, .set_4_A, .set_5_B, .set_5_C, .set_5_D,
     .set_5_E, .set_5_H, .set_5_L, .set_5_atHL, .set_5_A] := rfl

/-- R96, second bytes 0xF0 to 0xFF of the CB page. -/
theorem test_decode_cb_Fx :
    ([0xF0, 0xF1, 0xF2, 0xF3, 0xF4, 0xF5, 0xF6, 0xF7, 0xF8, 0xF9, 0xFA, 0xFB, 0xFC, 0xFD, 0xFE, 0xFF] : List Byte).map decodedCb =
    [.set_6_B, .set_6_C, .set_6_D, .set_6_E, .set_6_H, .set_6_L, .set_6_atHL, .set_6_A, .set_7_B, .set_7_C, .set_7_D,
     .set_7_E, .set_7_H, .set_7_L, .set_7_atHL, .set_7_A] := rfl

/-! ### One step: the vectors of 95_test_vectors.md §L2 -/

/-- V-LD8-1 (R110): `41` LD B,C. -/
theorem test_ld_reg_reg : EndsIn [0x41] boot
    (fun t => t.b = 0x13#8 ∧ t.readF = 0xB0#8 ∧ t.pc = 0x0101#16) := by decide

/-- V-LD8-3 (R111): `1E 9C` LD E,n. -/
theorem test_ld_reg_imm : EndsIn [0x1E, 0x9C] boot
    (fun t => t.e = 0x9C#8 ∧ t.readF = 0xB0#8 ∧ t.pc = 0x0102#16) := by decide

/-- V-LD8-5 (R112): `66` LD H,(HL). -/
theorem test_ld_H_atHL_uses_the_old_HL : EndsIn [0x66] { boot with h := 0xC1, l := 0x23, mem := [(0xC123, 0x77)] }
    (fun t => t.h = 0x77#8 ∧ t.readF = 0xB0#8 ∧ t.pc = 0x0101#16) := by decide

/-- V-LD8-6 (R113): `77` LD (HL),A. -/
theorem test_ld_atHL_A : EndsIn [0x77] { boot with h := 0xC0, l := 0x00, a := 0x99 }
    (fun t => t.memRead 0xC000 = 0x99#8 ∧ t.readF = 0xB0#8 ∧ t.pc = 0x0101#16) := by decide

/-- V-LD8-7 (R113; 20_memory.md R57): `77` LD (HL),A into ROM. -/
theorem test_ld_atHL_A_in_rom_is_ignored : EndsIn [0x77] { boot with h := 0x20, l := 0x00, a := 0x99 }
    (fun t => t.readF = 0xB0#8 ∧ t.pc = 0x0101#16 ∧ t.memRead 0x2000 = 0x00#8) := by decide

/-- V-LD8-9 (R114): `36 AB` LD (HL),n. -/
theorem test_ld_atHL_n : EndsIn [0x36, 0xAB] { boot with h := 0x9F, l := 0xFF }
    (fun t => t.memRead 0x9FFF = 0xAB#8 ∧ t.readF = 0xB0#8 ∧ t.pc = 0x0102#16) := by decide

/-- V-LD8-10 (R115): `0A` LD A,(BC). -/
theorem test_ld_A_atBC : EndsIn [0x0A] { boot with b := 0xD0, c := 0x00, mem := [(0xD000, 0x3C)] }
    (fun t => t.a = 0x3C#8 ∧ t.readF = 0xB0#8 ∧ t.pc = 0x0101#16) := by decide

/-- V-LD8-11 (R116): `1A` LD A,(DE). -/
theorem test_ld_A_atDE : EndsIn [0x1A] { boot with d := 0xFF, e := 0xFF, mem := [(0xFFFF, 0x1F)] }
    (fun t => t.a = 0x1F#8 ∧ t.readF = 0xB0#8 ∧ t.pc = 0x0101#16) := by decide

/-- V-LD8-12 (R117): `02` LD (BC),A. -/
theorem test_ld_atBC_A : EndsIn [0x02] { boot with b := 0xA0, c := 0x00, a := 0x11 }
    (fun t => t.memRead 0xA000 = 0x11#8 ∧ t.readF = 0xB0#8 ∧ t.pc = 0x0101#16) := by decide

/-- V-LD8-13 (R118): `12` LD (DE),A. -/
theorem test_ld_atDE_A : EndsIn [0x12] { boot with d := 0xFE, e := 0xFF, a := 0x22 }
    (fun t => t.memRead 0xFEFF = 0x22#8 ∧ t.readF = 0xB0#8 ∧ t.pc = 0x0101#16) := by decide

/-- V-LD8-14 (R119): `FA 34 C2` LD A,(nn). -/
theorem test_ld_A_atNN : EndsIn [0xFA, 0x34, 0xC2] { boot with mem := [(0xC234, 0xE7)] }
    (fun t => t.a = 0xE7#8 ∧ t.readF = 0xB0#8 ∧ t.pc = 0x0103#16) := by decide

/-- V-LD8-15 (R120): `EA 00 80` LD (nn),A. -/
theorem test_ld_atNN_A : EndsIn [0xEA, 0x00, 0x80] { boot with a := 0x5E }
    (fun t => t.memRead 0x8000 = 0x5E#8 ∧ t.readF = 0xB0#8 ∧ t.pc = 0x0103#16) := by decide

/-- V-LD8-16 (R121): `F0 44` LDH A,(n). -/
theorem test_ldh_A_atN : EndsIn [0xF0, 0x44] { boot with mem := [(0xFF44, 0x90)] }
    (fun t => t.a = 0x90#8 ∧ t.readF = 0xB0#8 ∧ t.pc = 0x0102#16) := by decide

/-- V-LD8-17 (R122): `E0 FF` LDH (n),A. -/
theorem test_ldh_atN_A : EndsIn [0xE0, 0xFF] { boot with a := 0x1F }
    (fun t => t.memRead 0xFFFF = 0x1F#8 ∧ t.readF = 0xB0#8 ∧ t.pc = 0x0102#16) := by decide

/-- V-LD8-18 (R123): `F2` LD A,(C). -/
theorem test_ld_A_atC : EndsIn [0xF2] { boot with c := 0x80, mem := [(0xFF80, 0x66)] }
    (fun t => t.a = 0x66#8 ∧ t.readF = 0xB0#8 ∧ t.pc = 0x0101#16) := by decide

/-- V-LD8-19 (R124): `E2` LD (C),A. -/
theorem test_ld_atC_A : EndsIn [0xE2] { boot with a := 0x77 }
    (fun t => t.memRead 0xFF13 = 0x77#8 ∧ t.readF = 0xB0#8 ∧ t.pc = 0x0101#16) := by decide

/-- V-LD8-21 (R125): `22` LD (HL+),A at 0xFFFF. -/
theorem test_ld_atHLinc_A_wraps : EndsIn [0x22] { boot with h := 0xFF, l := 0xFF, a := 0x12 }
    (fun t => t.memRead 0xFFFF = 0x12#8 ∧ t.h = 0x00#8 ∧ t.l = 0x00#8 ∧ t.readF = 0xB0#8 ∧ t.pc = 0x0101#16) := by decide

/-- V-LD8-23 (R126; 20_memory.md R57): `32` LD (HL-),A at 0x0000. -/
theorem test_ld_atHLdec_A_wraps : EndsIn [0x32] { boot with h := 0x00, l := 0x00, a := 0x34 }
    (fun t => t.h = 0xFF#8 ∧ t.l = 0xFF#8 ∧ t.readF = 0xB0#8 ∧ t.pc = 0x0101#16) := by decide

/-- V-LD8-24 (R127): `2A` LD A,(HL+). -/
theorem test_ld_A_atHLinc : EndsIn [0x2A] { boot with h := 0xC0, l := 0x00, mem := [(0xC000, 0xAA)] }
    (fun t => t.a = 0xAA#8 ∧ t.l = 0x01#8 ∧ t.readF = 0xB0#8 ∧ t.pc = 0x0101#16) := by decide

/-- V-LD8-25 (R128): `3A` LD A,(HL-). -/
theorem test_ld_A_atHLdec : EndsIn [0x3A] { boot with h := 0xC0, l := 0x00, mem := [(0xC000, 0xBB)] }
    (fun t => t.a = 0xBB#8 ∧ t.h = 0xBF#8 ∧ t.l = 0xFF#8 ∧ t.readF = 0xB0#8 ∧ t.pc = 0x0101#16) := by decide

/-- V-LD16-1 (R140): `01 34 12` LD BC,nn. -/
theorem test_ld_BC_nn_is_little_endian : EndsIn [0x01, 0x34, 0x12] boot
    (fun t => t.b = 0x12#8 ∧ t.c = 0x34#8 ∧ t.readF = 0xB0#8 ∧ t.pc = 0x0103#16) := by decide

/-- V-LD16-2 (R140): `31 00 E0` LD SP,nn. -/
theorem test_ld_SP_nn : EndsIn [0x31, 0x00, 0xE0] boot
    (fun t => t.readF = 0xB0#8 ∧ t.pc = 0x0103#16 ∧ t.sp = 0xE000#16) := by decide

/-- V-LD16-5 (R141; 20_memory.md R58): `08 FF FF` LD (nn),SP at 0xFFFF. -/
theorem test_ld_atNN_SP_wraps_into_rom : EndsIn [0x08, 0xFF, 0xFF] { boot with sp := 0x1234 }
    (fun t => t.memRead 0xFFFF = 0x34#8 ∧ t.readF = 0xB0#8 ∧ t.pc = 0x0103#16) := by decide

/-- V-LD16-6 (R142): `F9` LD SP,HL. -/
theorem test_ld_SP_HL : EndsIn [0xF9] { boot with h := 0xC0, l := 0xDE }
    (fun t => t.readF = 0xB0#8 ∧ t.pc = 0x0101#16 ∧ t.sp = 0xC0DE#16) := by decide

/-- V-LD16-9 (R143): `F8 10` LD HL,SP+e. -/
theorem test_ld_HL_SPe_keeps_z : EndsIn [0xF8, 0x10] { boot with sp := 0x00F0 }
    (fun t => t.l = 0x00#8 ∧ t.readF = 0x80#8 ∧ t.pc = 0x0102#16) := by decide

/-- V-LD16-10 (R143): `F8 10` LD HL,SP+e. -/
theorem test_ld_HL_SPe_other_flag_rule : EndsIn [0xF8, 0x10] { boot with sp := 0x00F0, config := { Config.default with spOffsetFlags := .lr35902Bits8 } }
    (fun t => t.l = 0x00#8 ∧ t.readF = 0x10#8 ∧ t.pc = 0x0102#16) := by decide

/-- V-LD16-14 (R144; 20_memory.md R62): `D5` PUSH DE at SP=0x0000. -/
theorem test_push_DE_wraps : EndsIn [0xD5] { boot with d := 0x13, e := 0x57, sp := 0x0000 }
    (fun t => t.memRead 0xFFFE = 0x57#8 ∧ t.memRead 0xFFFF = 0x13#8 ∧ t.readF = 0xB0#8 ∧ t.pc = 0x0101#16 ∧ t.sp = 0xFFFE#16) := by decide

/-- V-LD16-16 (R145): `F5` PUSH AF. -/
theorem test_push_AF : EndsIn [0xF5] boot
    (fun t => t.memRead 0xFFFC = 0xB0#8 ∧ t.memRead 0xFFFD = 0x01#8 ∧ t.readF = 0xB0#8 ∧ t.pc = 0x0101#16 ∧ t.sp = 0xFFFC#16) := by decide

/-- V-LD16-18 (R146; 20_memory.md R63): `E1` POP HL at SP=0xFFFF. -/
theorem test_pop_HL_wraps : EndsIn [0xE1] { boot with sp := 0xFFFF, mem := [(0x0000, 0x02), (0xFFFF, 0x01)] }
    (fun t => t.h = 0x02#8 ∧ t.l = 0x01#8 ∧ t.readF = 0xB0#8 ∧ t.pc = 0x0101#16 ∧ t.sp = 0x0001#16) := by decide

/-- V-LD16-19 (R147): `F1` POP AF. -/
theorem test_pop_AF_drops_the_low_nibble : EndsIn [0xF1] { boot with sp := 0xC000, mem := [(0xC000, 0xFF), (0xC001, 0x3C)] }
    (fun t => t.a = 0x3C#8 ∧ t.readF = 0xF0#8 ∧ t.pc = 0x0101#16 ∧ t.sp = 0xC002#16) := by decide

/-- V-ALU8-3 (R163): `86` ADD A,(HL). -/
theorem test_add_A_atHL_carries_without_half_carry : EndsIn [0x86] { boot with a := 0x80, h := 0xC0, l := 0x00, mem := [(0xC000, 0x80)] }
    (fun t => t.a = 0x00#8 ∧ t.readF = 0x90#8 ∧ t.pc = 0x0101#16) := by decide

/-- V-ALU8-4 (R164): `CE 00` ADC A,n, C=1. -/
theorem test_adc_A_n_counts_the_carry_in_h : EndsIn [0xCE, 0x00] { boot with a := 0xFF, f := 0x10 }
    (fun t => t.a = 0x00#8 ∧ t.readF = 0xB0#8 ∧ t.pc = 0x0102#16) := by decide

/-- V-ALU8-8 (R165): `D6 01` SUB A,n. -/
theorem test_sub_n_borrows : EndsIn [0xD6, 0x01] { boot with a := 0x00 }
    (fun t => t.a = 0xFF#8 ∧ t.readF = 0x70#8 ∧ t.pc = 0x0102#16) := by decide

/-- V-ALU8-11 (R166): `DE 0F` SBC A,n, C=1. -/
theorem test_sbc_A_n_half_borrow_from_the_carry : EndsIn [0xDE, 0x0F] { boot with a := 0x10, f := 0x10 }
    (fun t => t.a = 0x00#8 ∧ t.readF = 0xE0#8 ∧ t.pc = 0x0102#16) := by decide

/-- V-ALU8-14 (R167): `A0` AND B. -/
theorem test_and_B : EndsIn [0xA0] { boot with a := 0x3C, b := 0x0F }
    (fun t => t.a = 0x0C#8 ∧ t.readF = 0x20#8 ∧ t.pc = 0x0101#16) := by decide

/-- V-ALU8-15 (R168): `AF` XOR A. -/
theorem test_xor_A : EndsIn [0xAF] { boot with a := 0x5A }
    (fun t => t.a = 0x00#8 ∧ t.readF = 0x80#8 ∧ t.pc = 0x0101#16) := by decide

/-- V-ALU8-18 (R169): `B2` OR D. -/
theorem test_or_D : EndsIn [0xB2] { boot with a := 0x50, d := 0x05 }
    (fun t => t.a = 0x55#8 ∧ t.readF = 0x00#8 ∧ t.pc = 0x0101#16) := by decide

/-- V-ALU8-20 (R170): `FE 10` CP n, greater operand. -/
theorem test_cp_n_keeps_A : EndsIn [0xFE, 0x10] { boot with a := 0x0F }
    (fun t => t.readF = 0x50#8 ∧ t.pc = 0x0102#16 ∧ t.a = 0x0F#8) := by decide

/-- V-ALU8-22 (R171): `3C` INC A. -/
theorem test_inc_A_keeps_carry : EndsIn [0x3C] { boot with a := 0xFF, f := 0x10 }
    (fun t => t.a = 0x00#8 ∧ t.readF = 0xB0#8 ∧ t.pc = 0x0101#16) := by decide

/-- V-ALU8-26 (R172; 20_memory.md R57): `34` INC (HL) on ROM. -/
theorem test_inc_atHL_in_rom_sets_flags : EndsIn [0x34] { boot with h := 0x00, l := 0x00 }
    (fun t => t.readF = 0x10#8 ∧ t.pc = 0x0101#16 ∧ t.memRead 0x0000 = 0x00#8) := by decide

/-- V-ALU8-28 (R173): `15` DEC D. -/
theorem test_dec_D_keeps_carry : EndsIn [0x15] { boot with d := 0x00, f := 0x10 }
    (fun t => t.d = 0xFF#8 ∧ t.readF = 0x70#8 ∧ t.pc = 0x0101#16) := by decide

/-- V-ALU8-30 (R174): `35` DEC (HL). -/
theorem test_dec_atHL : EndsIn [0x35] { boot with h := 0xC0, l := 0x00, mem := [(0xC000, 0x00)] }
    (fun t => t.memRead 0xC000 = 0xFF#8 ∧ t.readF = 0x70#8 ∧ t.pc = 0x0101#16) := by decide

/-- V-ALU16-1 (R190): `09` ADD HL,BC. -/
theorem test_add_HL_BC_half_carry_from_bit_11 : EndsIn [0x09] { boot with h := 0x0F, l := 0xFF, b := 0x00, c := 0x01, f := 0x80 }
    (fun t => t.h = 0x10#8 ∧ t.l = 0x00#8 ∧ t.readF = 0xA0#8 ∧ t.pc = 0x0101#16) := by decide

/-- V-ALU16-3 (R190): `19` ADD HL,DE. -/
theorem test_add_HL_DE_wraps : EndsIn [0x19] { boot with h := 0xFF, l := 0xFF, d := 0x00, e := 0x01, f := 0x40 }
    (fun t => t.h = 0x00#8 ∧ t.l = 0x00#8 ∧ t.readF = 0x30#8 ∧ t.pc = 0x0101#16) := by decide

/-- V-ALU16-6 (R191): `33` INC SP. -/
theorem test_inc_SP_wraps : EndsIn [0x33] { boot with sp := 0xFFFF }
    (fun t => t.readF = 0xB0#8 ∧ t.pc = 0x0101#16 ∧ t.sp = 0x0000#16) := by decide

/-- V-ALU16-7 (R192): `1B` DEC DE. -/
theorem test_dec_DE_wraps : EndsIn [0x1B] { boot with d := 0x00, e := 0x00 }
    (fun t => t.d = 0xFF#8 ∧ t.e = 0xFF#8 ∧ t.readF = 0xB0#8 ∧ t.pc = 0x0101#16) := by decide

/-- V-ALU16-13 (R194): `E8 FE` ADD SP,e, e=-2. -/
theorem test_add_SP_negative : EndsIn [0xE8, 0xFE] { boot with f := 0x00, sp := 0xD000 }
    (fun t => t.readF = 0x10#8 ∧ t.pc = 0x0102#16 ∧ t.sp = 0xCFFE#16) := by decide

/-- V-ALU16-16 (R194): `E8 80` ADD SP,e, e=-128. -/
theorem test_add_SP_other_flag_rule : EndsIn [0xE8, 0x80] { boot with f := 0x80, sp := 0x0000, config := { Config.default with spOffsetFlags := .lr35902Bits8 } }
    (fun t => t.readF = 0x00#8 ∧ t.pc = 0x0102#16 ∧ t.sp = 0xFF80#16) := by decide

/-- V-MISC-1 (R200): `00` NOP. -/
theorem test_nop : EndsIn [0x00] boot
    (fun t => t.readF = 0xB0#8 ∧ t.pc = 0x0101#16) := by decide

/-- V-MISC-2 (R201): `76` HALT. -/
theorem test_halt : EndsIn [0x76] boot
    (fun t => t.readF = 0xB0#8 ∧ t.pc = 0x0101#16 ∧ t.mode = .halted ∧ t.haltCause = .halt) := by decide

/-- V-MISC-3 (R202): `10 00` STOP. -/
theorem test_stop_of_two_bytes : EndsIn [0x10, 0x00] boot
    (fun t => t.readF = 0xB0#8 ∧ t.pc = 0x0102#16 ∧ t.mode = .halted ∧ t.haltCause = .stop) := by decide

/-- V-MISC-4 (R202): `10 00` STOP. -/
theorem test_stop_of_one_byte : EndsIn [0x10, 0x00] { boot with config := { Config.default with stopLength := .one } }
    (fun t => t.readF = 0xB0#8 ∧ t.pc = 0x0101#16 ∧ t.mode = .halted ∧ t.haltCause = .stop) := by decide

/-- V-MISC-5 (R203): `F3` DI. -/
theorem test_di : EndsIn [0xF3] { boot with ime := true, imePending := false }
    (fun t => t.readF = 0xB0#8 ∧ t.pc = 0x0101#16 ∧ t.ime = false ∧ t.imePending = false) := by decide

/-- V-MISC-6 (R204): `FB` EI. -/
theorem test_ei : EndsIn [0xFB] boot
    (fun t => t.readF = 0xB0#8 ∧ t.pc = 0x0101#16 ∧ t.ime = false ∧ t.imePending = true) := by decide

/-- V-MISC-12 (R205): `27` DAA, A>0x99. -/
theorem test_daa_after_add : EndsIn [0x27] { boot with a := 0x9A, f := 0x00 }
    (fun t => t.a = 0x00#8 ∧ t.readF = 0x90#8 ∧ t.pc = 0x0101#16) := by decide

/-- V-MISC-16 (R205): `27` DAA after sub, H and C. -/
theorem test_daa_after_sub : EndsIn [0x27] { boot with a := 0xFF, f := 0x70 }
    (fun t => t.a = 0x99#8 ∧ t.readF = 0x50#8 ∧ t.pc = 0x0101#16) := by decide

/-- V-MISC-19 (R206): `2F` CPL. -/
theorem test_cpl : EndsIn [0x2F] { boot with a := 0x35, f := 0x90 }
    (fun t => t.a = 0xCA#8 ∧ t.readF = 0xF0#8 ∧ t.pc = 0x0101#16) := by decide

/-- V-MISC-21 (R207): `37` SCF. -/
theorem test_scf : EndsIn [0x37] { boot with f := 0xE0 }
    (fun t => t.readF = 0x90#8 ∧ t.pc = 0x0101#16) := by decide

/-- V-MISC-22 (R208): `3F` CCF. -/
theorem test_ccf : EndsIn [0x3F] { boot with f := 0xF0 }
    (fun t => t.readF = 0x80#8 ∧ t.pc = 0x0101#16) := by decide

/-- V-ROT-2 (R220): `07` RLCA, A=0. -/
theorem test_rlca_leaves_z_clear : EndsIn [0x07] { boot with a := 0x00, f := 0x80 }
    (fun t => t.readF = 0x00#8 ∧ t.pc = 0x0101#16) := by decide

/-- V-ROT-3 (R221): `0F` RRCA. -/
theorem test_rrca : EndsIn [0x0F] { boot with a := 0x01, f := 0x00 }
    (fun t => t.a = 0x80#8 ∧ t.readF = 0x10#8 ∧ t.pc = 0x0101#16) := by decide

/-- V-ROT-5 (R222): `17` RLA, C=1. -/
theorem test_rla : EndsIn [0x17] { boot with a := 0x55, f := 0x10 }
    (fun t => t.a = 0xAB#8 ∧ t.readF = 0x00#8 ∧ t.pc = 0x0101#16) := by decide

/-- V-ROT-6 (R223): `1F` RRA, C=1. -/
theorem test_rra : EndsIn [0x1F] { boot with a := 0x01, f := 0x10 }
    (fun t => t.a = 0x80#8 ∧ t.readF = 0x10#8 ∧ t.pc = 0x0101#16) := by decide

/-- V-ROT-8 (R225): `CB 00` RLC B. -/
theorem test_rlc_B : EndsIn [0xCB, 0x00] { boot with b := 0x00, f := 0x10 }
    (fun t => t.readF = 0x80#8 ∧ t.pc = 0x0102#16) := by decide

/-- V-ROT-10 (R226): `CB 09` RRC C. -/
theorem test_rrc_C : EndsIn [0xCB, 0x09] { boot with c := 0x01, f := 0x00 }
    (fun t => t.c = 0x80#8 ∧ t.readF = 0x10#8 ∧ t.pc = 0x0102#16) := by decide

/-- V-ROT-11 (R227): `CB 12` RL D, C=1. -/
theorem test_rl_D : EndsIn [0xCB, 0x12] { boot with d := 0x80, f := 0x10 }
    (fun t => t.d = 0x01#8 ∧ t.readF = 0x10#8 ∧ t.pc = 0x0102#16) := by decide

/-- V-ROT-14 (R228; R224): `CB 1E` RR (HL). -/
theorem test_rr_atHL : EndsIn [0xCB, 0x1E] { boot with h := 0xC0, l := 0x00, f := 0x00, mem := [(0xC000, 0x03)] }
    (fun t => t.memRead 0xC000 = 0x01#8 ∧ t.readF = 0x10#8 ∧ t.pc = 0x0102#16) := by decide

/-- V-ROT-15 (R229): `CB 25` SLA L. -/
theorem test_sla_L : EndsIn [0xCB, 0x25] { boot with l := 0x80, f := 0x00 }
    (fun t => t.l = 0x00#8 ∧ t.readF = 0x90#8 ∧ t.pc = 0x0102#16) := by decide

/-- V-ROT-17 (R230): `CB 28` SRA B. -/
theorem test_sra_B : EndsIn [0xCB, 0x28] { boot with b := 0x81, f := 0x00 }
    (fun t => t.b = 0xC0#8 ∧ t.readF = 0x10#8 ∧ t.pc = 0x0102#16) := by decide

/-- V-ROT-19 (R231): `CB 37` SWAP A. -/
theorem test_swap_A : EndsIn [0xCB, 0x37] { boot with a := 0xF0, f := 0x10 }
    (fun t => t.a = 0x0F#8 ∧ t.readF = 0x00#8 ∧ t.pc = 0x0102#16) := by decide

/-- V-ROT-22 (R232): `CB 3A` SRL D. -/
theorem test_srl_D : EndsIn [0xCB, 0x3A] { boot with d := 0x01, f := 0x00 }
    (fun t => t.d = 0x00#8 ∧ t.readF = 0x90#8 ∧ t.pc = 0x0102#16) := by decide

/-- V-BIT-2 (R240): `CB 7F` BIT 7,A. -/
theorem test_bit_7_A : EndsIn [0xCB, 0x7F] { boot with a := 0x7F, f := 0x50 }
    (fun t => t.readF = 0xB0#8 ∧ t.pc = 0x0102#16) := by decide

/-- V-BIT-6 (R241): `CB 86` RES 0,(HL). -/
theorem test_res_0_atHL : EndsIn [0xCB, 0x86] { boot with h := 0xC0, l := 0x00, mem := [(0xC000, 0x01)] }
    (fun t => t.memRead 0xC000 = 0x00#8 ∧ t.readF = 0xB0#8 ∧ t.pc = 0x0102#16) := by decide

/-- V-BIT-8 (R242): `CB FE` SET 7,(HL). -/
theorem test_set_7_atHL : EndsIn [0xCB, 0xFE] { boot with h := 0xFF, l := 0x80, mem := [(0xFF80, 0x00)] }
    (fun t => t.memRead 0xFF80 = 0x80#8 ∧ t.readF = 0xB0#8 ∧ t.pc = 0x0102#16) := by decide

/-- V-JMP-1 (R250): `C3 50 01` JP nn. -/
theorem test_jp_nn : EndsIn [0xC3, 0x50, 0x01] boot
    (fun t => t.readF = 0xB0#8 ∧ t.pc = 0x0150#16) := by decide

/-- V-JMP-6 (R251; 10_state.md R29): `18 FC` JR e across 0x0000. -/
theorem test_jr_e_wraps : EndsIn [0x18, 0xFC] { boot with pc := 0x0000 }
    (fun t => t.readF = 0xB0#8 ∧ t.pc = 0xFFFE#16) := by decide

/-- V-JMP-8 (R252): `C2 00 02` JP NZ,nn not taken. -/
theorem test_jp_NZ_not_taken : EndsIn [0xC2, 0x00, 0x02] { boot with f := 0x80 }
    (fun t => t.readF = 0x80#8 ∧ t.pc = 0x0103#16) := by decide

/-- V-JMP-13 (R253): `28 F0` JR Z,e taken. -/
theorem test_jr_Z_taken : EndsIn [0x28, 0xF0] { boot with f := 0x80 }
    (fun t => t.readF = 0x80#8 ∧ t.pc = 0x00F2#16) := by decide

/-- V-JMP-16 (R254): `E9` JP HL. -/
theorem test_jp_HL : EndsIn [0xE9] { boot with h := 0xC0, l := 0x00 }
    (fun t => t.readF = 0xB0#8 ∧ t.pc = 0xC000#16) := by decide

/-- V-CALL-2 (R260; 20_memory.md R62): `CD 00 02` CALL nn at SP=0x0001. -/
theorem test_call_nn_across_rom : EndsIn [0xCD, 0x00, 0x02] { boot with sp := 0x0001 }
    (fun t => t.memRead 0xFFFF = 0x03#8 ∧ t.readF = 0xB0#8 ∧ t.pc = 0x0200#16 ∧ t.sp = 0xFFFF#16) := by decide

/-- V-CALL-4 (R261): `CC 00 02` CALL Z,nn taken. -/
theorem test_call_Z_taken : EndsIn [0xCC, 0x00, 0x02] { boot with f := 0x80 }
    (fun t => t.memRead 0xFFFC = 0x03#8 ∧ t.memRead 0xFFFD = 0x01#8 ∧ t.readF = 0x80#8 ∧ t.pc = 0x0200#16 ∧ t.sp = 0xFFFC#16) := by decide

/-- V-CALL-7 (R262): `C9` RET. -/
theorem test_ret : EndsIn [0xC9] { boot with sp := 0xFFFC, mem := [(0xFFFC, 0x03), (0xFFFD, 0x12)] }
    (fun t => t.readF = 0xB0#8 ∧ t.pc = 0x1203#16 ∧ t.sp = 0xFFFE#16) := by decide

/-- V-CALL-9 (R263): `C8` RET Z not taken. -/
theorem test_ret_Z_not_taken : EndsIn [0xC8] { boot with f := 0x00, sp := 0xFFFC, mem := [(0xFFFC, 0x00), (0xFFFD, 0x03)] }
    (fun t => t.readF = 0x00#8 ∧ t.pc = 0x0101#16) := by decide

/-- V-CALL-13 (R264): `EF` RST 0x28. -/
theorem test_rst_28 : EndsIn [0xEF] { boot with pc := 0x0150 }
    (fun t => t.memRead 0xFFFC = 0x51#8 ∧ t.memRead 0xFFFD = 0x01#8 ∧ t.readF = 0xB0#8 ∧ t.pc = 0x0028#16 ∧ t.sp = 0xFFFC#16) := by decide

/-- V-CALL-16 (R266): `D9` RETI after EI. -/
theorem test_reti_after_ei : EndsIn [0xD9] { boot with sp := 0xFFFC, ime := false, imePending := true, mem := [(0xFFFC, 0x50), (0xFFFD, 0x01)] }
    (fun t => t.readF = 0xB0#8 ∧ t.pc = 0x0150#16 ∧ t.sp = 0xFFFE#16 ∧ t.ime = true ∧ t.imePending = false) := by decide

/-- V-EXC-1 (R300; 30_encoding.md R97): `D3` unmapped. -/
theorem test_unmapped_D3 : EndsIn [0xD3] boot
    (fun t => t.fault = some { cause := .decodeError, addr := 0x0100, bytes := [0xD3] } ∧ t.readF = 0xB0#8 ∧ t.pc = 0x0100#16 ∧ t.mode = .faulted) := by decide

/-- V-EXC-12 (R300; 30_encoding.md R96): `CB 37` CB prefix, page absent. -/
theorem test_prefix_with_the_page_absent : EndsIn [0xCB, 0x37] { boot with config := { Config.default with cbPage := .absent } }
    (fun t => t.fault = some { cause := .decodeError, addr := 0x0100, bytes := [0xCB] } ∧ t.readF = 0xB0#8 ∧ t.pc = 0x0100#16 ∧ t.mode = .faulted) := by decide

/-- V-MISC-7, second step (R204; 30_encoding.md R85): the instruction after `EI` sets `IME` at its end. -/
theorem test_delayed_ei_is_committed : EndsIn [0x00] { boot with imePending := true }
    (fun t => t.ime = true ∧ t.imePending = false) := by decide

/-- V-MISC-8, second step (R203): `DI` after `EI` cancels it. -/
theorem test_di_cancels_ei : EndsIn [0xF3] { boot with imePending := true }
    (fun t => t.ime = false ∧ t.imePending = false) := by decide

/-- V-EXC-14, second step (R300): a DecodeError ends the step before the commit. -/
theorem test_decode_error_skips_the_commit : EndsIn [0xD3] { boot with pc := 0x0101, imePending := true }
    (fun t => t.ime = false ∧ t.imePending = true ∧ t.mode = .faulted) := by decide

/-! ### The host's protocol (70_reset_and_hazards.md R332, R333) -/

/-- A core takes no step before the hand-off: construction is followed by the hand-off, then by steps. -/
theorem test_no_step_before_the_hand_off : step State.reset = .refused .noRomImage := rfl

/-- After a refused hand-off no step may run, and the hand-off is not tried again. -/
theorem test_refused_hand_off_stops_the_core :
    step (start smallestRom [0x00, 0x76]).state = .refused .noRomImage ∧
    (start smallestRom [0x00, 0x76]).refusal = some (.imageTooLong 2) ∧
    ((start smallestRom [0x00, 0x76]).state.handOff [0x76]).refusal = some .notTheFirst := ⟨rfl, rfl, rfl⟩

/-- A second hand-off is refused and leaves the ROM as it is. -/
theorem test_second_hand_off_is_refused :
    ((start smallestRom [0x3C]).state.handOff [0x76]).refusal = some .notTheFirst ∧
    ((start smallestRom [0x3C]).state.handOff [0x76]).state.memRead 0x0000 = 0x3C := ⟨rfl, rfl⟩

/-! ### Witnesses: the hypotheses of each statement met together -/

/-- The one-step states the witnesses share: the instruction bytes at `PC`, `HL` in writable RAM, `SP` in writable RAM. -/
def ready (bytes : List Byte) : State := { boot with h := 0xC1, l := 0x23, mem := Memory.load [] 0x0100 bytes }

/-- The state one step after `s`; `s` itself if the step answered no next state, which no witness below uses. -/
def after (s : State) : State :=
  match step s with
  | .next t => t
  | .fault _ => s
  | .refused _ => s

/-- The state one instruction after `s`; as `after`. -/
def afterExec (i : Instr) (s : State) : State :=
  match exec i s with
  | .next t => t
  | .fault _ => s
  | .refused _ => s

theorem witness_DecodeOfEncodeIsTheInstruction :
    (Instr.stop (some 0x5A)).wellFormed Config.default = true ∧ (Instr.stop none).wellFormed shortStop = true ∧
    (Instr.unmapped 0xFD).wellFormed Config.default = true ∧ Instr.prefixCB.wellFormed absentPage = true ∧
    Instr.set_7_A.wellFormed Config.default = true ∧ (Instr.ld_SP_nn 0xFFFF).wellFormed absentPage = true :=
  ⟨rfl, rfl, rfl, rfl, rfl, rfl⟩

theorem witness_EncodeOfDecodeIsTheBytes :
    decode Config.default [0xCB, 0xFF, 0x01] = .ok (.set_7_A, [0x01]) ∧
    decode absentPage [0xCB, 0xFF] = .ok (.prefixCB, [0xFF]) ∧
    decode Config.default [0x10, 0x77] = .ok (.stop (some 0x77), []) ∧
    decode shortStop [0x10, 0x77] = .ok (.stop none, [0x77]) := ⟨rfl, rfl, rfl, rfl⟩

theorem witness_LengthIsAFunctionOfTheFirstByte :
    Config.default.cbPage = .populated ∧ shortStop.cbPage = .populated ∧ (0x01 : Byte) ∉ unmappedBytes ∧
    (0xFA : Byte) ∉ unmappedBytes ∧ (0x06 : Byte) ∉ unmappedBytes ∧ (0xFE : Byte) ∉ unmappedBytes ∧
    (0x10 : Byte) ∉ unmappedBytes ∧ (0x00 : Byte) ∉ unmappedBytes ∧ (0xFF : Byte) ∉ unmappedBytes := by decide

theorem witness_UnmappedBytesAreExactlyEleven :
    decodeBytes Config.default 0xD3 0x00 0x00 = .unmapped 0xD3 ∧ decodeBytes Config.default 0xFD 0x00 0x00 = .unmapped 0xFD ∧
    decodeBytes absentPage 0xCB 0x37 0x00 = .prefixCB := ⟨rfl, rfl, rfl⟩

theorem witness_CbPageMapsEveryByteByItsFields : Config.default.cbPage = .populated ∧ absentPage.cbPage = .absent := ⟨rfl, rfl⟩

theorem witness_StepRunsTheDecodedInstruction :
    (ready [0xC3, 0x50, 0x01]).mode = .running ∧ (ready [0xC3, 0x50, 0x01]).romPhase = .handedOff ∧
    decode (ready [0xC3, 0x50, 0x01]).config [(ready [0xC3, 0x50, 0x01]).memRead 0x0100,
      (ready [0xC3, 0x50, 0x01]).memRead 0x0101, (ready [0xC3, 0x50, 0x01]).memRead 0x0102] = .ok (.jp_nn 0x0150, []) :=
  ⟨rfl, rfl, rfl⟩

/-- A core that may step, one that is not Running, and two that may not step. -/
theorem witness_EveryStepAnswersANextState :
    boot.romPhase = .handedOff ∧ (after (ready [0x76])).mode ≠ .running ∧
    State.reset.mode = .running ∧ State.reset.romPhase ≠ .handedOff ∧
    (start smallestRom [0x00, 0x76]).state.mode = .running ∧
    (start smallestRom [0x00, 0x76]).state.romPhase ≠ .handedOff := by decide

theorem witness_HaltedAndFaultedHaveNoStep :
    (after (ready [0x76])).mode = .halted ∧ (after (ready [0xD3])).mode = .faulted := by decide

theorem witness_DecodeErrorIsTakenExactlyWhenTheByteIsUnmapped :
    (ready [0xFD]).mode = .running ∧ (ready [0xFD]).romPhase = .handedOff ∧ DecodeErrorAtPc (ready [0xFD]) ∧
    DecodeErrorAtPc { ready [0xCB, 0x37] with config := absentPage } ∧
    ¬ DecodeErrorAtPc (ready [0xCB, 0x37]) ∧ step (ready [0xCB, 0x37]) = .next (after (ready [0xCB, 0x37])) := by
  refine ⟨rfl, rfl, Or.inl (by decide), Or.inr ⟨by decide, rfl⟩, ?_, rfl⟩
  rintro (h | ⟨-, h⟩)
  · exact absurd h (by decide)
  · cases h

/-- Both clauses, with `DI` (V-MISC-8), `EI` (V-MISC-9), `RETI` and an instruction that is none of them. -/
theorem witness_DelayedEiIsCommittedByTheNextInstruction :
    (∀ b ∈ ([0xF3, 0xFB, 0xD9, 0x00] : List Byte), ∀ pending ∈ [true, false],
      ({ ready [b] with imePending := pending }).mode = .running ∧
      (after { ready [b] with imePending := pending }).mode ≠ .faulted) ∧
    (ready [0xF3]).fetchInstr = .di ∧ (ready [0xFB]).fetchInstr = .ei ∧ (ready [0xD9]).fetchInstr = .reti ∧
    step (ready [0xFB]) = .next (after (ready [0xFB])) := ⟨by decide, rfl, rfl, rfl, rfl⟩

theorem witness_ImeIsReadByNoInstruction : step (ready [0xFB]) = .next (after (ready [0xFB])) := rfl

/-- The first and the last address of ROM, with a store and with a step. -/
theorem witness_NoInstructionChangesRom :
    InRom boot 0x0000 ∧ InRom boot 0x7FFF ∧ ¬ InRom boot 0x8000 ∧
    exec .ld_atHL_A { boot with h := 0x7F, l := 0xFF } = .next (afterExec .ld_atHL_A { boot with h := 0x7F, l := 0xFF }) ∧
    step (ready [0x77]) = .next (after (ready [0x77])) := by
  refine ⟨by unfold InRom; decide, by unfold InRom; decide, by unfold InRom; decide, rfl, rfl⟩

/-- The invariant with a store, with `HALT` and with a DecodeError ahead, and before the hand-off. -/
theorem witness_StepKeepsTheInvariant :
    (∀ b ∈ ([0x77, 0x76, 0xD3] : List Byte), (ready [b]).Inv) ∧ State.reset.Inv ∧
    step (ready [0x77]) = .next (after (ready [0x77])) := ⟨by decide, by decide, rfl⟩

theorem witness_StepKeepsConfigurationAndFault :
    step (after (ready [0xD3])) = .next (after (ready [0xD3])) ∧ (after (ready [0xD3])).fault.isSome = true ∧
    (after (ready [0xD3])).mode = .faulted ∧
    step (after (ready [0x76])) = .next (after (ready [0x76])) ∧ (after (ready [0x76])).mode = .halted :=
  ⟨rfl, rfl, rfl, rfl, rfl⟩

theorem witness_HaltedIsEnteredOnlyByHaltAndStop :
    (ready [0x76]).mode = .running ∧ (ready [0x76]).fetchInstr = .halt ∧
    (ready [0x10, 0x00]).fetchInstr = .stop (some 0x00) ∧ step (ready [0x10, 0x00]) = .next (after (ready [0x10, 0x00])) ∧
    step (ready [0x76]) = .next (after (ready [0x76])) ∧
    step (ready [0x00]) = .next (after (ready [0x00])) ∧ (after (ready [0x00])).mode ≠ .halted :=
  ⟨rfl, rfl, rfl, rfl, rfl, rfl, by decide⟩

theorem witness_SpChangesOnlyByStackInstructions :
    ¬ WritesSp .inc_BC ∧ exec .inc_BC boot = .next (afterExec .inc_BC boot) := by
  refine ⟨?_, rfl⟩
  unfold WritesSp
  simp only [not_or, not_exists]
  refine ⟨?_, ?_, ?_, ?_, ?_, ?_, ?_, ?_, ?_, ?_, ?_, ?_, ?_⟩
  all_goals try (intros; intro h; cases h)
  all_goals try (intro p _ h; cases p <;> cases h)
  all_goals try (intro p h; cases p <;> cases h)
  all_goals (intro p h; revert h; fin_cases p <;> intro h <;> cases h)

theorem witness_FlagsChangeOnlyByTheListedInstructions :
    ¬ WritesFlags .res_0_atHL ∧ exec .res_0_atHL boot = .next (afterExec .res_0_atHL boot) := by
  refine ⟨?_, rfl⟩
  unfold WritesFlags
  simp only [not_or, not_exists]
  refine ⟨?_, ?_, ?_, ?_, ?_, ?_, ?_, ?_, ?_, ?_, ?_, ?_, ?_, ?_, ?_, ?_, ?_, ?_⟩
  · rintro op (r | _) h <;> cases op <;> (try cases r) <;> cases h
  · rintro op n h; cases op <;> cases h
  · rintro (r | _) h <;> (try cases r) <;> cases h
  · rintro (r | _) h <;> (try cases r) <;> cases h
  · rintro r h; cases r <;> cases h
  all_goals try (intros; intro h; cases h)
  · rintro op (r | _) h <;> cases op <;> (try cases r) <;> cases h
  · rintro n (r | _) h <;> revert h <;> fin_cases n <;> (try cases r) <;> intro h <;> cases h

theorem witness_MemoryChangesOnlyByStores :
    ¬ StoresToMemory .ld_A_atHL ∧ exec .ld_A_atHL boot = .next (afterExec .ld_A_atHL boot) := by
  refine ⟨?_, rfl⟩
  unfold StoresToMemory
  simp only [not_or, not_exists]
  refine ⟨?_, ?_, ?_, ?_, ?_, ?_, ?_, ?_, ?_, ?_, ?_, ?_, ?_, ?_, ?_, ?_, ?_, ?_, ?_⟩
  all_goals try (intros; intro h; cases h)
  all_goals try (intro p _ h; cases p <;> cases h)
  all_goals try (intro p h; cases p <;> cases h)
  all_goals (intro p h; revert h; fin_cases p <;> intro h <;> cases h)

/-- The longest and the shortest form of an instruction that is no transfer, and the two lengths of `STOP`. -/
theorem witness_PcAdvancesByTheInstructionLength :
    (∀ i ∈ [Instr.halt, .ld_SP_nn 0xFFFF, .stop (some 0x00)], ¬ IsTransfer i ∧ i.wellFormed boot.config = true ∧
      (∀ op, i ≠ .unmapped op) ∧ i ≠ .prefixCB ∧ exec i boot = .next (afterExec i boot)) ∧
    (Instr.stop none).wellFormed { boot with config := shortStop }.config = true := by
  refine ⟨?_, rfl⟩
  intro i hi
  simp only [List.mem_cons, List.not_mem_nil, or_false] at hi
  refine ⟨?_, by rcases hi with rfl | rfl | rfl <;> rfl, by rcases hi with rfl | rfl | rfl <;> (intro op h; cases h),
    by rcases hi with rfl | rfl | rfl <;> (intro h; cases h), by rcases hi with rfl | rfl | rfl <;> rfl⟩
  unfold IsTransfer
  simp only [not_or, not_exists]
  rcases hi with rfl | rfl | rfl <;> refine ⟨?_, ?_, ?_, ?_, ?_, ?_, ?_, ?_, ?_, ?_, ?_⟩
  all_goals try (intros; intro h; cases h)
  all_goals try (intro p _ h; cases p <;> cases h)
  all_goals try (intro p h; cases p <;> cases h)
  all_goals (intro p h; revert h; fin_cases p <;> intro h <;> cases h)

theorem witness_BoundedRunsCompose : run 1 (ready [0x76]) = .next (after (ready [0x76])) := rfl

theorem witness_ConstructionSetsEveryPieceOfState :
    Config.default.bootProfile = .dmgPostBoot ∧ { Config.default with bootProfile := .zero }.bootProfile = .zero ∧
    ¬ InRom (State.construct Config.default) 0x8000 ∧ ¬ InRom (State.construct smallestRom) 0x0001 := by
  refine ⟨rfl, rfl, by unfold InRom; decide, by unfold InRom; decide⟩

/-- The first and the last address of ROM. -/
theorem witness_ConstructionMeetsTheInvariant :
    InRom (State.construct Config.default) 0x0000 ∧ InRom (State.construct Config.default) 0x7FFF := by
  refine ⟨by unfold InRom; decide, by unfold InRom; decide⟩

/-- A core that awaits its image and one that does not, an image that just fits the smallest ROM region, one that is one
byte too long, and an address of each clause. -/
theorem witness_RomHandOffFillsTheRomRegion :
    (State.construct smallestRom).romPhase = .awaiting ∧ (State.construct smallestRom).mode = .running ∧
    boot.romPhase ≠ .awaiting ∧ (start smallestRom [0x00, 0x76]).state.romPhase ≠ .awaiting ∧
    [(0x3C : Byte)].length ≤ smallestRom.romEnd.val + 1 ∧ smallestRom.romEnd.val + 1 < [(0x3C : Byte), 0x3D].length ∧
    (0x0000 : Word).toNat < [(0x3C : Byte)].length ∧
    ([] : List Byte).length ≤ (0x0000 : Word).toNat ∧ InRom (State.construct smallestRom) 0x0000 ∧
    ¬ InRom (State.construct smallestRom) 0x0001 := by
  refine ⟨rfl, rfl, by decide, by decide, by decide, by decide, by decide, by decide, by unfold InRom; decide, by unfold InRom; decide⟩

theorem witness_EveryAddressHasOneRegion :
    regionOf Config.default 0x7FFF = .rom ∧ regionOf Config.default 0x8000 = .vram ∧
    regionOf Config.default 0x9FFF = .vram ∧ regionOf Config.default 0xA000 = .internalRam ∧
    regionOf Config.default 0xFEFF = .internalRam ∧ regionOf Config.default 0xFF00 = .highRam ∧
    regionOf smallestRom 0x0000 = .rom ∧ regionOf smallestRom 0x0001 = .vram ∧
    regionOf { Config.default with romEnd := 0x9FFE } 0x9FFF = .vram := ⟨rfl, rfl, rfl, rfl, rfl, rfl, rfl, rfl, rfl⟩

/-- A store has three cases, and each statement about a store meets them: in ROM, outside it, and at another address. -/
theorem witness_stores_inside_and_outside_rom :
    InRom boot 0x7FFF ∧ ¬ InRom boot 0x8000 ∧ ¬ InRom boot 0xFFFF ∧ InRom boot ((0xFFFF : Word) + 1) ∧
    (0xC124 : Word) ∉ [hl (ready [])] := by
  refine ⟨by unfold InRom; decide, by unfold InRom; decide, by unfold InRom; decide, by unfold InRom; decide, by decide⟩

theorem witness_SpPlusDisplacement :
    boot.config.spOffsetFlags = .doc16Bit ∧
    { boot with config := { Config.default with spOffsetFlags := .lr35902Bits8 } }.config.spOffsetFlags = .lr35902Bits8 :=
  ⟨rfl, rfl⟩

/-- Writable stack bytes at the top of memory and across its end: `SP` of 0xFFFE and of 0x0000; a list of two words. -/
theorem witness_StackIsLastInFirstOut :
    ¬ InRom boot (boot.sp - 1) ∧ ¬ InRom boot (boot.sp - 2) ∧
    ¬ InRom { boot with sp := 0x0000 } (0x0000 - 1) ∧ ¬ InRom { boot with sp := 0x0000 } (0x0000 - 2) ∧
    2 * [(0x1234 : Word), 0xABCD].length ≤ 65536 ∧
    ∀ k : Nat, 1 ≤ k → k ≤ 2 * [(0x1234 : Word), 0xABCD].length → ¬ InRom boot (boot.sp - BitVec.ofNat 16 k) := by
  refine ⟨by unfold InRom; decide, by unfold InRom; decide, by unfold InRom; decide, by unfold InRom; decide, by decide, ?_⟩
  intro k h1 h2
  have hk : k = 1 ∨ k = 2 ∨ k = 3 ∨ k = 4 := by simp only [List.length_cons, List.length_nil] at h2; omega
  rcases hk with rfl | rfl | rfl | rfl <;> (unfold InRom; decide)

theorem witness_DecimalAdjust :
    { boot with f := 0x00 }.getFlag .n = false ∧ { boot with f := 0x60 }.getFlag .n = true := by decide

/-- The ends of the decimal range. -/
theorem witness_DecimalAdjustCorrectsBcdSums :
    0 < 100 ∧ 99 < 100 ∧ { boot with a := 0x99 }.a = bcd 99 ∧ { boot with a := 0x00 }.a = bcd 0 := by decide

/-- Each condition holding and not holding, for the conditional jumps, calls and returns. -/
theorem witness_conditions_hold_and_fail :
    CondHolds { boot with f := 0x00 } .nz ∧ ¬ CondHolds { boot with f := 0x80 } .nz ∧
    CondHolds { boot with f := 0x80 } .z ∧ ¬ CondHolds { boot with f := 0x00 } .z ∧
    CondHolds { boot with f := 0x00 } .nc ∧ ¬ CondHolds { boot with f := 0x10 } .nc ∧
    CondHolds { boot with f := 0x10 } .c ∧ ¬ CondHolds { boot with f := 0x00 } .c := by
  simp only [CondHolds]
  decide

/-- The forms the register clauses name: `AF` and another pair, `SP` and another 16-bit register. -/
theorem witness_pair_and_register_forms : (Pair.bc ≠ .af) ∧ (Reg16.bc ≠ .sp) ∧ (Pair.af = .af) := by decide

end Sys2Proof.Tests
end

section
/-! SUPPORT. What an instruction can do, once: the updates each instruction may make, by the lists of R28 (flags), R30
(`SP`) and files 40 to 48 (stores, control transfers). The frames and the invariants of the machine follow by induction
over these updates. -/

namespace Sys2Proof.Machine

/-! ### The length of each family (R80, R99) -/

@[simp] theorem length_ldRegReg (dst r : Reg) : (Instr.ldRegReg dst r).length = 1 := by cases dst <;> cases r <;> rfl
@[simp] theorem length_ldRegImm (dst : Reg) (n : Byte) : (Instr.ldRegImm dst n).length = 2 := by cases dst <;> rfl
@[simp] theorem length_ldRegMem (dst : Reg) : (Instr.ldRegMem dst).length = 1 := by cases dst <;> rfl
@[simp] theorem length_ldMemReg (r : Reg) : (Instr.ldMemReg r).length = 1 := by cases r <;> rfl
@[simp] theorem length_ldReg16Imm (r : Reg16) (nn : Word) : (Instr.ldReg16Imm r nn).length = 3 := by cases r <;> rfl
@[simp] theorem length_push (p : Pair) : (Instr.push p).length = 1 := by cases p <;> rfl
@[simp] theorem length_pop (p : Pair) : (Instr.pop p).length = 1 := by cases p <;> rfl
@[simp] theorem length_alu (op : AluOp) (o : Operand8) : (Instr.alu op o).length = 1 := by
  cases op <;> obtain ⟨_ | _⟩ | _ := o <;> rfl
@[simp] theorem length_aluImm (op : AluOp) (n : Byte) : (Instr.aluImm op n).length = 2 := by cases op <;> rfl
@[simp] theorem length_inc8 (o : Operand8) : (Instr.inc8 o).length = 1 := by obtain ⟨_ | _⟩ | _ := o <;> rfl
@[simp] theorem length_dec8 (o : Operand8) : (Instr.dec8 o).length = 1 := by obtain ⟨_ | _⟩ | _ := o <;> rfl
@[simp] theorem length_addHl (r : Reg16) : (Instr.addHl r).length = 1 := by cases r <;> rfl
@[simp] theorem length_inc16 (r : Reg16) : (Instr.inc16 r).length = 1 := by cases r <;> rfl
@[simp] theorem length_dec16 (r : Reg16) : (Instr.dec16 r).length = 1 := by cases r <;> rfl
@[simp] theorem length_shift (op : ShiftOp) (o : Operand8) : (Instr.shift op o).length = 2 := by
  cases op <;> obtain ⟨_ | _⟩ | _ := o <;> rfl
@[simp] theorem length_bit (n : Fin 8) (o : Operand8) : (Instr.bit n o).length = 2 := by
  fin_cases n <;> obtain ⟨_ | _⟩ | _ := o <;> rfl
@[simp] theorem length_res (n : Fin 8) (o : Operand8) : (Instr.res n o).length = 2 := by
  fin_cases n <;> obtain ⟨_ | _⟩ | _ := o <;> rfl
@[simp] theorem length_set (n : Fin 8) (o : Operand8) : (Instr.set n o).length = 2 := by
  fin_cases n <;> obtain ⟨_ | _⟩ | _ := o <;> rfl
@[simp] theorem length_jpIf (cc : Cond) (nn : Word) : (Instr.jpIf cc nn).length = 3 := by cases cc <;> rfl
@[simp] theorem length_jrIf (cc : Cond) (e : Byte) : (Instr.jrIf cc e).length = 2 := by cases cc <;> rfl
@[simp] theorem length_callIf (cc : Cond) (nn : Word) : (Instr.callIf cc nn).length = 3 := by cases cc <;> rfl
@[simp] theorem length_retIf (cc : Cond) : (Instr.retIf cc).length = 1 := by cases cc <;> rfl
@[simp] theorem length_rst (y : Fin 8) : (Instr.rst y).length = 1 := by fin_cases y <;> rfl

/-! ### The updates an instruction may make -/

/-- `t` comes from `s` by updates the spec lets `i` make: registers freely; `PC`, `SP`, `F` and memory only where `i` is in
their list; `IME` and `IME_PENDING` only by `DI`, `EI` and `RETI` (R32). -/
inductive Edits (i : Instr) (s : State) : State → Prop
  | refl : Edits i s s
  | setReg {t : State} (r : Reg) (v : Byte) (ht : Edits i s t) : Edits i s (t.setReg r v)
  | setPc {t : State} (v : Word) (hi : IsTransfer i) (ht : Edits i s t) : Edits i s (t.setPc v)
  | setSp {t : State} (v : Word) (hi : WritesSp i) (ht : Edits i s t) : Edits i s (t.setSp v)
  | writeF {t : State} (v : Byte) (hi : WritesFlags i) (ht : Edits i s t) : Edits i s (t.writeF v)
  | memWrite {t : State} (x : Word) (v : Byte) (hi : StoresToMemory i) (ht : Edits i s t) : Edits i s (t.memWrite x v)
  | setIme {t : State} (enable pending : Bool) (hi : i = .di ∨ i = .ei ∨ i = .reti) (ht : Edits i s t) :
      Edits i s (t.setIme enable pending)

namespace Edits

variable {i : Instr} {s t : State}

/-! #### The named operations as updates -/

theorem setPair (p : Pair) (v : Word) (hi : p = .af → WritesFlags i) (ht : Edits i s t) : Edits i s (t.setPair p v) := by
  cases p with
  | bc => exact (ht.setReg .b (hiByte v)).setReg .c (loByte v)
  | de => exact (ht.setReg .d (hiByte v)).setReg .e (loByte v)
  | hl => exact (ht.setReg .h (hiByte v)).setReg .l (loByte v)
  | af => exact (ht.setReg .a (hiByte v)).writeF (loByte v) (hi rfl)

theorem setReg16 (r : Reg16) (v : Word) (hi : r = .sp → WritesSp i) (ht : Edits i s t) : Edits i s (t.setReg16 r v) := by
  cases r with
  | bc => exact ht.setPair .bc v nofun
  | de => exact ht.setPair .de v nofun
  | hl => exact ht.setPair .hl v nofun
  | sp => exact ht.setSp v (hi rfl)

theorem writeOperand (o : Operand8) (v : Byte) (hi : o = .atHL → StoresToMemory i) (ht : Edits i s t) :
    Edits i s (t.writeOperand o v) := by
  cases o with
  | reg r => exact ht.setReg r v
  | atHL => exact ht.memWrite (t.getPair .hl) v (hi rfl)

theorem writeFlag (fl : Flag) (v : Bool) (hi : WritesFlags i) (ht : Edits i s t) : Edits i s (t.writeFlag fl v) :=
  ht.writeF _ hi

theorem setFlags (z n h c : Bool) (hi : WritesFlags i) (ht : Edits i s t) : Edits i s (t.setFlags z n h c) :=
  (((ht.writeFlag .z z hi).writeFlag .n n hi).writeFlag .h h hi).writeFlag .c c hi

theorem setFlagsZNH (z n h : Bool) (hi : WritesFlags i) (ht : Edits i s t) : Edits i s (t.setFlagsZNH z n h) :=
  ((ht.writeFlag .z z hi).writeFlag .n n hi).writeFlag .h h hi

theorem setFlagsNHC (n h c : Bool) (hi : WritesFlags i) (ht : Edits i s t) : Edits i s (t.setFlagsNHC n h c) :=
  ((ht.writeFlag .n n hi).writeFlag .h h hi).writeFlag .c c hi

theorem setFlagsFrom {w : Nat} (r : AluResult w) (hi : WritesFlags i) (ht : Edits i s t) : Edits i s (t.setFlagsFrom r) :=
  ht.setFlags r.z r.n r.h r.c hi

theorem memWrite16 (x v : Word) (hi : StoresToMemory i) (ht : Edits i s t) : Edits i s (t.memWrite16 x v) :=
  (ht.memWrite x (loByte v) hi).memWrite (x + 1) (hiByte v) hi

theorem push16 (v : Word) (hm : StoresToMemory i) (hs : WritesSp i) (ht : Edits i s t) : Edits i s (t.push16 v) :=
  (ht.memWrite16 (t.sp - 2) v hm).setSp (t.sp - 2) hs

theorem callTo (v : Word) (hp : IsTransfer i) (hm : StoresToMemory i) (hs : WritesSp i) (ht : Edits i s t) :
    Edits i s (t.callTo v) :=
  (ht.push16 t.pc hm hs).setPc v hp

theorem returnFromStack (hp : IsTransfer i) (hs : WritesSp i) (ht : Edits i s t) : Edits i s t.returnFromStack :=
  (ht.setSp (t.sp + 2) hs).setPc t.popValue hp

theorem ite {u : State} (c : Bool) (ht : Edits i s t) (hu : Edits i s u) : Edits i s (if c then t else u) := by
  cases c
  · exact hu
  · exact ht

/-- The accumulator operations write `F`, and `A` but for `CP` (R163–R170). -/
theorem aluWith (op : AluOp) (len : Nat) (v : Byte) (hi : WritesFlags i) :
    Edits i (s.advance len) (aluWith op len v s) := by
  have hf : Edits i (s.advance len) ((s.advance len).setFlagsFrom (alu8 op s.a v (s.getFlag .c))) :=
    .setFlagsFrom _ hi .refl
  cases op with
  | cp => exact hf
  | _ => exact .setReg .a _ hf

/-! #### What the updates leave alone -/

theorem sameMode (h : Edits i s t) : SameMode s t := by
  induction h with
  | refl => exact ⟨rfl, rfl, rfl, rfl, rfl⟩
  | _ => simpa [SameMode]

theorem pc_eq (hi : ¬ IsTransfer i) (h : Edits i s t) : t.pc = s.pc := by
  induction h with
  | refl => rfl
  | setPc _ h => exact absurd h hi
  | _ => simpa

theorem sp_eq (hi : ¬ WritesSp i) (h : Edits i s t) : t.sp = s.sp := by
  induction h with
  | refl => rfl
  | setSp _ h => exact absurd h hi
  | _ => simpa

theorem f_eq (hi : ¬ WritesFlags i) (h : Edits i s t) : t.f = s.f := by
  induction h with
  | refl => rfl
  | writeF _ h => exact absurd h hi
  | _ => simpa

/-- Memory changes only by the stores (R67). -/
theorem mem_eq (hi : ¬ StoresToMemory i) (h : Edits i s t) : t.mem = s.mem := by
  induction h with
  | refl => rfl
  | memWrite _ _ h => exact absurd h hi
  | _ => simpa

/-! #### What the updates keep -/

/-- Every write of `F` stores a zero low nibble (R26). -/
theorem flagsConsistent (h : Edits i s t) (hs : s.FlagsConsistent) : t.FlagsConsistent := by
  induction h with
  | refl => exact hs
  | writeF v => simp [State.FlagsConsistent, BitVec.and_assoc]
  | _ => simpa [State.FlagsConsistent]

theorem memoryCanonical (h : Edits i s t) (hs : s.MemoryCanonical) : t.MemoryCanonical := by
  induction h with
  | refl => exact hs
  | memWrite x v _ _ ih => exact wf_memWrite _ x v ih
  | _ => simpa [State.MemoryCanonical]

end Edits

/-! ### What an instruction does -/

/-- `STOP` enters Halted after as many bytes as it has in the configuration (R80, R202). -/
theorem exec_stop (ignored : Option Byte) (s : State) :
    ∃ n, exec (.stop ignored) s = .next ((s.advance n).enterHalted .stop) ∧
      ((Instr.stop ignored).wellFormed s.config = true → n = (Instr.stop ignored).length) := by
  change ∃ n, Host.Outcome.next (stopCore s) = _ ∧ _
  cases hc : s.config.stopLength with
  | one => exact ⟨1, by simp [stopCore, hc], by cases ignored <;> simp [Instr.wellFormed, Instr.length, hc]⟩
  | two => exact ⟨2, by simp [stopCore, hc], by cases ignored <;> simp [Instr.wellFormed, Instr.length, hc]⟩

/-- All that `i` can make of `s`: the DecodeError on the state before the step (R300), `HALT` (R201), `STOP` (R202), or
`PC` advanced by the length of `i` (R82, R83) and updates that `i` may make. -/
inductive Effect (i : Instr) (s : State) : State → Prop
  | decodeError (bytes : List Byte) (hi : i = .prefixCB ∨ ∃ op, i = .unmapped op) : Effect i s (s.raiseDecodeError bytes)
  | halt (hi : i = .halt) : Effect i s ((s.advance 1).enterHalted .halt)
  | stop (ignored : Option Byte) (n : Nat) (hi : i = .stop ignored) (hn : i.wellFormed s.config = true → n = i.length) :
      Effect i s ((s.advance n).enterHalted .stop)
  | edits {t : State} (ht : Edits i (s.advance i.length) t) : Effect i s t

/-- Every instruction completes, with one of the effects. -/
def Completes (i : Instr) : Prop := ∀ s : State, ∃ t, exec i s = .next t ∧ Effect i s t

/-- An instruction of `n` bytes whose meaning is updates it may make completes. -/
theorem Completes.of_edits {i : Instr} {op : State → State} (n : Nat) (hn : i.length = n)
    (hx : ∀ s, exec i s = .next (op s)) (ho : ∀ s, Edits i (s.advance n) (op s)) : Completes i :=
  fun s => ⟨op s, hx s, .edits (hn ▸ ho s)⟩

theorem storesToMemory_shift (op : ShiftOp) : StoresToMemory (Instr.shift op .atHL) := by
  simp [StoresToMemory, exists_apply_eq_apply' (Instr.shift · .atHL)]

theorem storesToMemory_res (n : Fin 8) : StoresToMemory (Instr.res n .atHL) := by
  simp [StoresToMemory, exists_apply_eq_apply' (Instr.res · .atHL)]

theorem storesToMemory_set (n : Fin 8) : StoresToMemory (Instr.set n .atHL) := by
  simp [StoresToMemory, exists_apply_eq_apply' (Instr.set · .atHL)]

/-- Every instruction completes, and makes only updates of its lists: one case per family of the opcode table. -/
theorem completes (i : Instr) : Completes i := by
  induction i using byFamily with
  | ldRegReg dst r => exact .of_edits 1 (by simp) (exec_ldRegReg dst r) fun _ => .setReg _ _ .refl
  | ldRegImm dst n => exact .of_edits 2 (by simp) (exec_ldRegImm dst n) fun _ => .setReg _ _ .refl
  | ldRegMem dst => exact .of_edits 1 (by simp) (exec_ldRegMem dst) fun _ => .setReg _ _ .refl
  | ldMemReg r =>
    exact .of_edits 1 (by simp) (exec_ldMemReg r) fun _ => .memWrite _ _ (by simp [StoresToMemory]) .refl
  | ldReg16Imm r nn =>
    exact .of_edits 3 (by simp) (exec_ldReg16Imm r nn) fun _ => .setReg16 _ _ (by rintro rfl; simp [WritesSp]) .refl
  | push p =>
    exact .of_edits 1 (by simp) (exec_push p) fun _ => .push16 _ (by simp [StoresToMemory]) (by simp [WritesSp]) .refl
  | pop p =>
    exact .of_edits 1 (by simp) (exec_pop p) fun _ =>
      .setPair _ _ (by rintro rfl; simp [WritesFlags]) (.setSp _ (by simp [WritesSp]) .refl)
  | alu op o => exact .of_edits 1 (by simp) (exec_alu op o) fun _ => .aluWith op 1 _ (by simp [WritesFlags])
  | aluImm op n => exact .of_edits 2 (by simp) (exec_aluImm op n) fun _ => .aluWith op 2 n (by simp [WritesFlags])
  | inc8 o =>
    exact .of_edits 1 (by simp) (exec_inc8 o) fun _ =>
      .setFlagsZNH _ _ _ (by simp [WritesFlags]) (.writeOperand _ _ (by rintro rfl; simp [StoresToMemory]) .refl)
  | dec8 o =>
    exact .of_edits 1 (by simp) (exec_dec8 o) fun _ =>
      .setFlagsZNH _ _ _ (by simp [WritesFlags]) (.writeOperand _ _ (by rintro rfl; simp [StoresToMemory]) .refl)
  | addHl r =>
    exact .of_edits 1 (by simp) (exec_addHl r) fun _ =>
      .setFlagsNHC _ _ _ (by simp [WritesFlags]) (.setPair _ _ nofun .refl)
  | inc16 r =>
    exact .of_edits 1 (by simp) (exec_inc16 r) fun _ => .setReg16 _ _ (by rintro rfl; simp [WritesSp]) .refl
  | dec16 r =>
    exact .of_edits 1 (by simp) (exec_dec16 r) fun _ => .setReg16 _ _ (by rintro rfl; simp [WritesSp]) .refl
  | shift op o =>
    exact .of_edits 2 (by simp) (exec_shift op o) fun _ =>
      .setFlagsFrom _ (by simp [WritesFlags]) (.writeOperand _ _ (by rintro rfl; exact storesToMemory_shift _) .refl)
  | bit n o =>
    exact .of_edits 2 (by simp) (exec_bit n o) fun _ => .setFlagsZNH _ _ _ (by simp [WritesFlags]) .refl
  | res n o =>
    exact .of_edits 2 (by simp) (exec_res n o) fun _ => .writeOperand _ _ (by rintro rfl; exact storesToMemory_res _) .refl
  | set n o =>
    exact .of_edits 2 (by simp) (exec_set n o) fun _ => .writeOperand _ _ (by rintro rfl; exact storesToMemory_set _) .refl
  | jpIf cc nn =>
    exact .of_edits 3 (by simp) (exec_jpIf cc nn) fun _ => .ite _ (.setPc _ (by simp [IsTransfer]) .refl) .refl
  | jrIf cc e =>
    exact .of_edits 2 (by simp) (exec_jrIf cc e) fun _ => .ite _ (.setPc _ (by simp [IsTransfer]) .refl) .refl
  | callIf cc nn =>
    exact .of_edits 3 (by simp) (exec_callIf cc nn) fun _ =>
      .ite _ (.callTo _ (by simp [IsTransfer]) (by simp [StoresToMemory]) (by simp [WritesSp]) .refl) .refl
  | retIf cc =>
    exact .of_edits 1 (by simp) (exec_retIf cc) fun _ =>
      .ite _ (.returnFromStack (by simp [IsTransfer]) (by simp [WritesSp]) .refl) .refl
  | rst y =>
    exact .of_edits 1 (by simp) (exec_rst y) fun _ =>
      .callTo _ (by simp [IsTransfer]) (by simp [StoresToMemory]) (by simp [WritesSp]) .refl
  | ld_atNN_SP nn => exact .of_edits 3 rfl (fun _ => rfl) fun _ => .memWrite16 _ _ (by simp [StoresToMemory]) .refl
  | stop ignored =>
    intro s
    obtain ⟨n, hx, hn⟩ := exec_stop ignored s
    exact ⟨_, hx, .stop ignored n rfl hn⟩
  | jr_e e => exact .of_edits 2 rfl (fun _ => rfl) fun _ => .setPc _ (by simp [IsTransfer]) .refl
  | ld_atHL_n n => exact .of_edits 2 rfl (fun _ => rfl) fun _ => .memWrite _ _ (by simp [StoresToMemory]) .refl
  | jp_nn nn => exact .of_edits 3 rfl (fun _ => rfl) fun _ => .setPc _ (by simp [IsTransfer]) .refl
  | call_nn nn =>
    exact .of_edits 3 rfl (fun _ => rfl) fun _ =>
      .callTo _ (by simp [IsTransfer]) (by simp [StoresToMemory]) (by simp [WritesSp]) .refl
  | unmapped op => exact fun s => ⟨s.raiseDecodeError [op], rfl, .decodeError _ (.inr ⟨op, rfl⟩)⟩
  | ldh_atN_A n => exact .of_edits 2 rfl (fun _ => rfl) fun _ => .memWrite _ _ (by simp [StoresToMemory]) .refl
  | add_SP_e e =>
    exact .of_edits 2 rfl (fun _ => rfl) fun _ =>
      .setFlagsFrom _ (by simp [WritesFlags]) (.setSp _ (by simp [WritesSp]) .refl)
  | ld_atNN_A nn => exact .of_edits 3 rfl (fun _ => rfl) fun _ => .memWrite _ _ (by simp [StoresToMemory]) .refl
  | ldh_A_atN n => exact .of_edits 2 rfl (fun _ => rfl) fun _ => .setReg .a _ .refl
  | ld_HL_SPe e =>
    exact .of_edits 2 rfl (fun _ => rfl) fun _ =>
      .setFlagsFrom _ (by simp [WritesFlags]) (.setPair .hl _ nofun .refl)
  | ld_A_atNN nn => exact .of_edits 3 rfl (fun _ => rfl) fun _ => .setReg .a _ .refl
  | nop => exact .of_edits 1 rfl (fun _ => rfl) fun _ => .refl
  | ld_atBC_A | ld_atDE_A | ld_atC_A =>
    exact .of_edits 1 rfl (fun _ => rfl) fun _ => .memWrite _ _ (by simp [StoresToMemory]) .refl
  | ld_A_atBC | ld_A_atDE | ld_A_atC => exact .of_edits 1 rfl (fun _ => rfl) fun _ => .setReg .a _ .refl
  | rlca | rrca | rla | rra =>
    exact .of_edits 1 rfl (fun _ => rfl) fun _ => .setFlags _ _ _ _ (by simp [WritesFlags]) (.setReg .a _ .refl)
  | ld_atHLinc_A | ld_atHLdec_A =>
    exact .of_edits 1 rfl (fun _ => rfl) fun _ => .setPair .hl _ nofun (.memWrite _ _ (by simp [StoresToMemory]) .refl)
  | ld_A_atHLinc | ld_A_atHLdec =>
    exact .of_edits 1 rfl (fun _ => rfl) fun _ => .setPair .hl _ nofun (.setReg .a _ .refl)
  | daa =>
    have hf : WritesFlags .daa := by simp [WritesFlags]
    exact .of_edits 1 rfl (fun _ => rfl) fun _ =>
      .writeFlag _ _ hf (.writeFlag _ _ hf (.writeFlag _ _ hf (.setReg .a _ .refl)))
  | cpl =>
    have hf : WritesFlags .cpl := by simp [WritesFlags]
    exact .of_edits 1 rfl (fun _ => rfl) fun _ => .writeFlag _ _ hf (.writeFlag _ _ hf (.setReg .a _ .refl))
  | scf | ccf => exact .of_edits 1 rfl (fun _ => rfl) fun _ => .setFlagsNHC _ _ _ (by simp [WritesFlags]) .refl
  | halt => exact fun s => ⟨_, rfl, .halt rfl⟩
  | ret =>
    exact .of_edits 1 rfl (fun _ => rfl) fun _ => .returnFromStack (by simp [IsTransfer]) (by simp [WritesSp]) .refl
  | prefixCB => exact fun s => ⟨s.raiseDecodeError [0xCB#8], rfl, .decodeError _ (.inl rfl)⟩
  | reti =>
    exact .of_edits 1 rfl (fun _ => rfl) fun _ =>
      .setIme _ _ (by simp) (.returnFromStack (by simp [IsTransfer]) (by simp [WritesSp]) .refl)
  | jp_HL => exact .of_edits 1 rfl (fun _ => rfl) fun _ => .setPc _ (by simp [IsTransfer]) .refl
  | di | ei => exact .of_edits 1 rfl (fun _ => rfl) fun _ => .setIme _ _ (by simp) .refl
  | ld_SP_HL => exact .of_edits 1 rfl (fun _ => rfl) fun _ => .setSp _ (by simp [WritesSp]) .refl

/-- What an instruction has made of the state is one of its effects. -/
theorem exec_effect {i : Instr} {s t : State} (h : exec i s = .next t) : Effect i s t := by
  obtain ⟨u, hu, he⟩ := completes i s
  rw [hu] at h
  cases h
  exact he

end Sys2Proof.Machine
end

section
/-! SUPPORT. Every operation commutes with a write of `IME` and `IME_PENDING` (R32), so no instruction but `DI`, `EI` and
`RETI` touches them and none reads them into anything else. -/

namespace Sys2Proof.Machine

section

variable (s : State) (ime pending : Bool)

/-! ### Reads do not see `IME` and `IME_PENDING` -/

@[simp] theorem setIme_setIme (enable pend : Bool) : (s.setIme ime pending).setIme enable pend = s.setIme enable pend := rfl
@[simp] theorem getReg16_setIme (r : Reg16) : (s.setIme ime pending).getReg16 r = s.getReg16 r := by cases r <;> rfl
@[simp] theorem readOperand_setIme (o : Operand8) : (s.setIme ime pending).readOperand o = s.readOperand o := by
  cases o <;> simp [State.readOperand]
@[simp] theorem cond_setIme (cc : Cond) : (s.setIme ime pending).cond cc = s.cond cc := by cases cc <;> rfl
@[simp] theorem popValue_setIme : (s.setIme ime pending).popValue = s.popValue := rfl
@[simp] theorem fetchInstr_setIme : (s.setIme ime pending).fetchInstr = s.fetchInstr := rfl

/-! ### Updates commute with a write of `IME` and `IME_PENDING` -/

@[simp] theorem setPc_setIme (v : Word) : (s.setIme ime pending).setPc v = (s.setPc v).setIme ime pending := rfl
@[simp] theorem advance_setIme (n : Nat) : (s.setIme ime pending).advance n = (s.advance n).setIme ime pending := rfl
@[simp] theorem setSp_setIme (v : Word) : (s.setIme ime pending).setSp v = (s.setSp v).setIme ime pending := rfl
@[simp] theorem popDone_setIme : (s.setIme ime pending).popDone = s.popDone.setIme ime pending := rfl
@[simp] theorem setReg_setIme (r : Reg) (v : Byte) :
    (s.setIme ime pending).setReg r v = (s.setReg r v).setIme ime pending := by cases r <;> rfl
@[simp] theorem setPair_setIme (p : Pair) (v : Word) :
    (s.setIme ime pending).setPair p v = (s.setPair p v).setIme ime pending := by cases p <;> rfl
@[simp] theorem setReg16_setIme (r : Reg16) (v : Word) :
    (s.setIme ime pending).setReg16 r v = (s.setReg16 r v).setIme ime pending := by cases r <;> rfl
@[simp] theorem setFlagsZNH_setIme (z n h : Bool) :
    (s.setIme ime pending).setFlagsZNH z n h = (s.setFlagsZNH z n h).setIme ime pending := rfl
@[simp] theorem setFlagsNHC_setIme (n h c : Bool) :
    (s.setIme ime pending).setFlagsNHC n h c = (s.setFlagsNHC n h c).setIme ime pending := rfl
@[simp] theorem setFlagsFrom_setIme {w : Nat} (r : AluResult w) :
    (s.setIme ime pending).setFlagsFrom r = (s.setFlagsFrom r).setIme ime pending := rfl
@[simp] theorem memWrite_setIme (x : Word) (v : Byte) :
    (s.setIme ime pending).memWrite x v = (s.memWrite x v).setIme ime pending := by
  simp only [State.memWrite, setIme_config]
  split <;> rfl
@[simp] theorem memWrite16_setIme (x v : Word) :
    (s.setIme ime pending).memWrite16 x v = (s.memWrite16 x v).setIme ime pending := by simp [State.memWrite16]
@[simp] theorem push16_setIme (v : Word) : (s.setIme ime pending).push16 v = (s.push16 v).setIme ime pending := by
  simp [State.push16]
@[simp] theorem callTo_setIme (v : Word) : (s.setIme ime pending).callTo v = (s.callTo v).setIme ime pending := by
  simp [State.callTo]
@[simp] theorem returnFromStack_setIme :
    (s.setIme ime pending).returnFromStack = s.returnFromStack.setIme ime pending := rfl
@[simp] theorem writeOperand_setIme (o : Operand8) (v : Byte) :
    (s.setIme ime pending).writeOperand o v = (s.writeOperand o v).setIme ime pending := by
  cases o <;> simp [State.writeOperand]
@[simp] theorem aluWith_setIme (op : AluOp) (len : Nat) (v : Byte) :
    aluWith op len v (s.setIme ime pending) = (aluWith op len v s).setIme ime pending := by
  cases op <;> simp [aluWith]

end

/-! ### Instructions -/

/-- From states that differ only in `IME` and `IME_PENDING`, `i` completes in states that differ at most in them. -/
def BlindToIme (i : Instr) : Prop :=
  ∀ (s : State) (ime pending : Bool), ∃ t ime' pending',
    exec i s = .next t ∧ exec i (s.setIme ime pending) = .next (t.setIme ime' pending')

/-- An instruction whose meaning commutes with the write is blind to it. -/
theorem BlindToIme.of_commutes {i : Instr} {op : State → State} (hx : ∀ s, exec i s = .next (op s))
    (hop : ∀ s ime pending, op (s.setIme ime pending) = (op s).setIme ime pending) : BlindToIme i :=
  fun s ime pending => ⟨op s, ime, pending, hx s, by rw [hx, hop]⟩

/-- Every instruction is blind to `IME` (R32, R342): its meaning commutes with a write of `IME` and `IME_PENDING`, by
computation alone where it makes no memory write and no choice, or it is one of the three that write them. -/
theorem blindToIme (i : Instr) : BlindToIme i := by
  induction i using byFamily with
  | ldRegReg dst r => exact .of_commutes (exec_ldRegReg dst r) (by simp [ldRegReg])
  | ldRegImm dst n => exact .of_commutes (exec_ldRegImm dst n) (by simp [ldRegImm])
  | ldRegMem dst => exact .of_commutes (exec_ldRegMem dst) (by simp [ldRegMem])
  | ldMemReg r => exact .of_commutes (exec_ldMemReg r) (by simp [ldMemReg])
  | ldReg16Imm r nn => exact .of_commutes (exec_ldReg16Imm r nn) (by simp [ldReg16Imm])
  | push p => exact .of_commutes (exec_push p) (by simp [pushPair])
  | pop p => exact .of_commutes (exec_pop p) (by simp [popPair])
  | alu op o => exact .of_commutes (exec_alu op o) (by simp [aluOperand])
  | aluImm op n => exact .of_commutes (exec_aluImm op n) (by simp [aluImm])
  | inc8 o => exact .of_commutes (exec_inc8 o) (by simp [inc8])
  | dec8 o => exact .of_commutes (exec_dec8 o) (by simp [dec8])
  | addHl r => exact .of_commutes (exec_addHl r) (by simp [addHl])
  | inc16 r => exact .of_commutes (exec_inc16 r) (by simp [inc16])
  | dec16 r => exact .of_commutes (exec_dec16 r) (by simp [dec16])
  | shift op o => exact .of_commutes (exec_shift op o) (by simp [shiftOperand])
  | bit n o => exact .of_commutes (exec_bit n o) (by simp [testBit])
  | res n o => exact .of_commutes (exec_res n o) (by simp [resetBit])
  | set n o => exact .of_commutes (exec_set n o) (by simp [setBit])
  | jpIf cc nn => exact .of_commutes (exec_jpIf cc nn) fun s _ _ => by cases h : s.cond cc <;> simp [jumpIf, h]
  | jrIf cc e =>
    exact .of_commutes (exec_jrIf cc e) fun s _ _ => by
      cases h : s.cond cc <;> simp [jumpRelativeIf, State.jumpRelative, h]
  | callIf cc nn => exact .of_commutes (exec_callIf cc nn) fun s _ _ => by cases h : s.cond cc <;> simp [callIf, h]
  | retIf cc => exact .of_commutes (exec_retIf cc) fun s _ _ => by cases h : s.cond cc <;> simp [returnIf, h]
  | rst y => exact .of_commutes (exec_rst y) (by simp [restart])
  | ld_atNN_SP nn => exact .of_commutes (op := storeSp nn) (fun _ => rfl) (by simp [storeSp])
  | ld_atHL_n n => exact .of_commutes (op := ldMemImm n) (fun _ => rfl) (by simp [ldMemImm])
  | call_nn nn => exact .of_commutes (fun _ => rfl) (by simp)
  | ldh_atN_A | ld_atNN_A | ld_atBC_A | ld_atDE_A | ld_atC_A =>
    exact .of_commutes (fun _ => rfl) fun s _ _ => by simp [storeA]
  | ld_atHLinc_A | ld_atHLdec_A =>
    exact .of_commutes (fun _ => rfl) fun s _ _ => by simp [storeA, incHL, decHL]
  | stop ignored =>
    exact .of_commutes (op := stopCore) (fun _ => rfl) fun s _ _ => by
      simp only [stopCore, setIme_config]
      split <;> rfl
  | di => exact fun s _ _ => ⟨_, false, false, rfl, rfl⟩
  | ei => exact fun s ime _ => ⟨_, ime, true, rfl, rfl⟩
  | reti => exact fun s _ _ => ⟨_, true, false, rfl, rfl⟩
  | _ => exact .of_commutes (fun _ => rfl) fun _ _ _ => rfl

/-- Outside Running there is no step (R88). -/
theorem step_not_running {s : State} (hm : s.mode ≠ .running) : step s = .next s := by
  cases h : s.mode with
  | running => exact absurd h hm
  | halted => simp only [step, h]
  | faulted => simp only [step, h]

/-- What two states that differ only in `IME` and `IME_PENDING` become differs at most in them. -/
theorem exec_setIme {i : Instr} {s t : State} (h : exec i s = .next t) (ime pending : Bool) :
    ∃ ime' pending', exec i (s.setIme ime pending) = .next (t.setIme ime' pending') := by
  obtain ⟨u, ime', pending', hu, hv⟩ := blindToIme i s ime pending
  rw [h] at hu
  cases hu
  exact ⟨ime', pending', hv⟩

/-- The commit of a delayed `EI` writes nothing but `IME` and `IME_PENDING` (R85). -/
theorem commitDelayedEi_eq_setIme (s : State) (pend : Bool) :
    ∃ ime pending, s.commitDelayedEi pend = s.setIme ime pending := by
  unfold State.commitDelayedEi
  split
  · exact ⟨true, false, rfl⟩
  · exact ⟨s.ime, s.imePending, rfl⟩

end Sys2Proof.Machine
end

section
/-! SUPPORT. The family 10_state.md of the statements: the invariant, the frames of `SP`, `F` and `PC`, the modes, the state
at construction, the register pairs and the flags. -/

namespace Sys2Proof.Machine

/-! ### What every instruction leaves alone and keeps -/

namespace Effect

variable {i : Instr} {s t : State}

theorem sp_eq (h : Effect i s t) (hi : ¬ WritesSp i) : t.sp = s.sp := by
  cases h with
  | decodeError | halt | stop => rfl
  | edits h => simpa using h.sp_eq hi

theorem f_eq (h : Effect i s t) (hi : ¬ WritesFlags i) : t.f = s.f := by
  cases h with
  | decodeError | halt | stop => rfl
  | edits h => simpa using h.f_eq hi

theorem config_eq (h : Effect i s t) : t.config = s.config := by
  cases h with
  | decodeError | halt | stop => rfl
  | edits h => obtain ⟨-, -, -, -, hc⟩ := h.sameMode; exact hc

theorem romPhase_eq (h : Effect i s t) : t.romPhase = s.romPhase := by
  cases h with
  | decodeError | halt | stop => rfl
  | edits h => obtain ⟨-, -, -, hr, -⟩ := h.sameMode; exact hr

/-- No instruction clears `FAULT` (R301). -/
theorem fault_isSome (h : Effect i s t) (hs : s.fault.isSome = true) : t.fault.isSome = true := by
  cases h with
  | decodeError => rfl
  | halt | stop => exact hs
  | edits h => obtain ⟨-, -, hf, -, -⟩ := h.sameMode; rw [hf]; exact hs

theorem flagsConsistent (h : Effect i s t) (hs : s.FlagsConsistent) : t.FlagsConsistent := by
  cases h with
  | decodeError | halt | stop => exact hs
  | edits h => exact h.flagsConsistent hs

theorem memoryCanonical (h : Effect i s t) (hs : s.MemoryCanonical) : t.MemoryCanonical := by
  cases h with
  | decodeError | halt | stop => exact hs
  | edits h => exact h.memoryCanonical hs

/-- From a Running state each instruction sets `HALT_CAUSE` and `FAULT` with the mode (R33, R34). -/
theorem modeConsistent (h : Effect i s t) (hm : s.mode = .running) (hs : s.ModeConsistent) : t.ModeConsistent := by
  obtain ⟨hhalted, hfaulted⟩ := hs
  have hcause : s.haltCause = .none := by simpa [hm] using hhalted
  have hfault : s.fault = none := by simpa [hm] using hfaulted
  cases h with
  | decodeError => simp [State.ModeConsistent, hcause]
  | halt | stop => simp [State.ModeConsistent, hfault]
  | edits h =>
    obtain ⟨hmode, hcause', hfault', -, -⟩ := h.sameMode
    simp_all [State.ModeConsistent]

/-- Only `HALT` and `STOP` enter Halted (R31). -/
theorem of_mode_halted (h : Effect i s t) (hm : s.mode = .running) (ht : t.mode = .halted) :
    i = .halt ∨ ∃ ignored, i = .stop ignored := by
  cases h with
  | decodeError => simp at ht
  | halt hi => exact .inl hi
  | stop ignored _ hi => exact .inr ⟨ignored, hi⟩
  | edits h =>
    obtain ⟨hmode, -⟩ := h.sameMode
    simp [hmode, hm] at ht

/-- `HALT_CAUSE` is written on entry to Halted alone (R33). -/
theorem haltCause_eq (h : Effect i s t) (ht : t.mode ≠ .halted) : t.haltCause = s.haltCause := by
  cases h with
  | decodeError => rfl
  | halt | stop => simp at ht
  | edits h =>
    obtain ⟨-, hcause, -⟩ := h.sameMode
    exact hcause

end Effect

/-- Settles O13, by each instruction's commuting with a write of `IME` and `IME_PENDING`. -/
theorem imeIsReadByNoInstruction : Obligations.ImeIsReadByNoInstruction := by
  intro s t ime pending h
  change ∃ ime' pending', step (s.setIme ime pending) = .next (t.setIme ime' pending')
  obtain ⟨hm, rfl⟩ | ⟨hm, hr, u, hu, rfl⟩ := step_cases h
  · exact ⟨ime, pending, step_not_running (by simpa using hm)⟩
  · obtain ⟨ime₁, pending₁, hv⟩ := exec_setIme hu ime pending
    obtain ⟨ime₂, pending₂, hc⟩ := commitDelayedEi_eq_setIme (u.setIme ime₁ pending₁) pending
    obtain ⟨ime₃, pending₃, hd⟩ := commitDelayedEi_eq_setIme u s.imePending
    refine ⟨ime₂, pending₂, ?_⟩
    rw [step_running (by simpa) (by simpa), fetchInstr_setIme, hv, hd]
    simpa using hc

/-- Settles O15: each part of the invariant is kept by the effect of an instruction, and a step is one or none. -/
theorem stepKeepsTheInvariant : Obligations.StepKeepsTheInvariant := by
  intro s t hs h
  obtain ⟨-, rfl⟩ | ⟨hm, hr, u, hu, rfl⟩ := step_cases h
  · exact hs
  · obtain ⟨hmode, hflags, hmem, -⟩ := hs
    have he := exec_effect hu
    have hrom : u.romPhase = .handedOff := by rw [he.romPhase_eq, hr]
    refine ⟨?_, ?_, ?_, fun hn => absurd (by simpa using hrom) hn⟩
    · simpa [State.ModeConsistent] using he.modeConsistent hm hmode
    · simpa [State.FlagsConsistent] using he.flagsConsistent hflags
    · simpa [State.MemoryCanonical] using he.memoryCanonical hmem

/-- Settles O17: outside Running a step is none, and no effect of an instruction clears `FAULT`. -/
theorem stepKeepsConfigurationAndFault : Obligations.StepKeepsConfigurationAndFault := by
  intro s t h
  obtain ⟨-, rfl⟩ | ⟨hm, -, u, hu, rfl⟩ := step_cases h
  · exact ⟨rfl, rfl, id, fun h => ⟨h, rfl⟩, fun h => ⟨h, rfl⟩⟩
  · have he := exec_effect hu
    exact ⟨by simpa using he.config_eq, by simpa using he.romPhase_eq, by simpa using he.fault_isSome,
      by simp [hm], by simp [hm]⟩

/-- Settles O18: only the effects of `HALT` and `STOP` enter Halted, and only they write `HALT_CAUSE`. -/
theorem haltedIsEnteredOnlyByHaltAndStop : Obligations.HaltedIsEnteredOnlyByHaltAndStop := by
  intro s t hm h
  obtain ⟨hn, -⟩ | ⟨-, -, u, hu, rfl⟩ := step_cases h
  · exact absurd hm hn
  have he := exec_effect hu
  simp only [commitDelayedEi_mode, commitDelayedEi_haltCause]
  have hhalt : s.fetchInstr = .halt → u.mode = .halted ∧ u.haltCause = .halt := by
    intro hi
    rw [hi] at hu
    cases hu
    exact ⟨rfl, rfl⟩
  have hstop : ∀ x, s.fetchInstr = .stop x → u.mode = .halted ∧ u.haltCause = .stop := by
    intro x hi
    obtain ⟨n, hx, -⟩ := exec_stop x s
    rw [hi, hx] at hu
    cases hu
    exact ⟨rfl, rfl⟩
  refine ⟨⟨he.of_mode_halted hm, ?_⟩, fun hi => (hhalt hi).2, fun x hi => (hstop x hi).2, he.haltCause_eq⟩
  rintro (hi | ⟨x, hi⟩)
  · exact (hhalt hi).1
  · exact (hstop x hi).1

/-- Settles O19, by the updates each instruction may make. -/
theorem spChangesOnlyByStackInstructions : Obligations.SpChangesOnlyByStackInstructions :=
  fun _ _ _ hi h => (exec_effect h).sp_eq hi

/-- Settles O20, by the updates each instruction may make. -/
theorem flagsChangeOnlyByTheListedInstructions : Obligations.FlagsChangeOnlyByTheListedInstructions :=
  fun _ _ _ hi h => (exec_effect h).f_eq hi

/-- Settles O22: every effect but the DecodeError advances `PC` by the length, and only a transfer writes it again. -/
theorem pcAdvancesByTheInstructionLength : Obligations.PcAdvancesByTheInstructionLength := by
  intro i s t hw htransfer hunmapped hcb h
  cases exec_effect h with
  | decodeError _ hi =>
    obtain hi | ⟨op, hi⟩ := hi
    · exact absurd hi hcb
    · exact absurd hi (hunmapped op)
  | halt hi => subst hi; rfl
  | stop x n hi hn => rw [← hn hw]; rfl
  | edits he => exact he.pc_eq htransfer

/-- Settles O24, for each boot profile. -/
theorem constructionSetsEveryPieceOfState : Obligations.ConstructionSetsEveryPieceOfState := by
  intro cfg
  cases h : cfg.bootProfile <;> simp [State.construct, h, State.memRead, Memory.read]

/-- Settles O28, by the laws of pairs and of byte composition. -/
theorem pairsAreViewsOfTheRegisters : Obligations.PairsAreViewsOfTheRegisters := by
  intro s v
  refine ⟨⟨joinBytes_toNat _ _, joinBytes_toNat _ _, joinBytes_toNat _ _, joinBytes_toNat _ _⟩, by simp,
    fun p => getPair_setPair s p v, fun p => ⟨⟨sameRegs_setPair s p v, sameFlags_setPair s p v, ?_, ?_, ?_⟩, ?_, ?_⟩⟩
  · intro x _; simp
  · simp [SameMode]
  · simp [SameEnable]
  · simp
  · simp

/-- The bit of `F` each flag is (R25). -/
def flagBit : Flag → Nat
  | .z => 7
  | .n => 6
  | .h => 5
  | .c => 4

/-- A flag is its bit of `F` (R25, R27). -/
theorem getFlag_eq_bit (s : State) (fl : Flag) : s.getFlag fl = s.readF.getLsbD (flagBit fl) := by
  have key : ∀ f : Byte, ((f &&& 0xF0#8 &&& flagMask fl) != 0#8) = (f &&& 0xF0#8).getLsbD (flagBit fl) := by
    cases fl <;> decide
  exact key s.f

/-- Settles O29: each mask of R25 selects its bit, and each write of `F` clears the low nibble. -/
theorem flagsAreBitsOfFWithAZeroLowNibble : Obligations.FlagsAreBitsOfFWithAZeroLowNibble := by
  intro s
  refine ⟨⟨getFlag_eq_bit s .z, getFlag_eq_bit s .n, getFlag_eq_bit s .h, getFlag_eq_bit s .c⟩, readF_low s,
    ?_, ?_, ?_, ?_⟩
  · simp [State.getPair]
  · simp
  · simp [BitVec.and_assoc]
  · intro fl v
    refine ⟨by simp, fun q hq => ?_, by simp [State.writeFlag, BitVec.and_assoc]⟩
    simp only [List.mem_singleton] at hq
    simp [Ne.symm hq]

end Sys2Proof.Machine
end

section
/-! SUPPORT. The family 20_memory.md of the statements: the regions of the address space, byte and word access, what an
instruction and the ROM hand-off do to memory, the stack. -/

namespace Sys2Proof.Machine

/-! ### What every instruction leaves of memory -/

/-- No update an instruction may make reaches a byte of the ROM region (R57, R60). -/
theorem Edits.memRead_of_inRom {i : Instr} {s t : State} {x : Word} (h : Edits i s t) (hx : InRom s x) :
    t.memRead x = s.memRead x := by
  induction h with
  | refl => rfl
  | memWrite y v _ ht ih =>
    obtain ⟨-, -, -, -, hc⟩ := ht.sameMode
    have hrom : regionOf _ x = .rom := (inRom_iff s x).mp hx
    rw [memRead_memWrite, hc, if_neg, ih]
    rintro ⟨rfl, hn⟩
    exact hn hrom
  | _ => simpa

namespace Effect

variable {i : Instr} {s t : State}

theorem mem_eq (h : Effect i s t) (hi : ¬ StoresToMemory i) : t.mem = s.mem := by
  cases h with
  | decodeError | halt | stop => rfl
  | edits h => simpa using h.mem_eq hi

theorem memRead_of_inRom {x : Word} (h : Effect i s t) (hx : InRom s x) : t.memRead x = s.memRead x := by
  cases h with
  | decodeError | halt | stop => rfl
  | edits h => simpa using h.memRead_of_inRom (s := s.advance i.length) hx

end Effect

/-- Settles O14: no effect of an instruction reaches ROM, and a step is one instruction or none. -/
theorem noInstructionChangesRom : Obligations.NoInstructionChangesRom := by
  intro s x hx
  refine ⟨fun i t h => (exec_effect h).memRead_of_inRom hx, fun t h => ?_⟩
  obtain ⟨-, rfl⟩ | ⟨-, -, u, hu, rfl⟩ := step_cases h
  · rfl
  · simpa using (exec_effect hu).memRead_of_inRom hx

/-- Settles O21, by the updates each instruction may make. -/
theorem memoryChangesOnlyByStores : Obligations.MemoryChangesOnlyByStores :=
  fun _ _ _ hi h => (exec_effect h).mem_eq hi

/-! ### The ROM hand-off -/

/-- An image that fits is accepted by a core that awaits it (R55). -/
theorem handOff_accepts {s : State} {img : List Byte} (ha : s.romPhase = .awaiting)
    (hl : img.length ≤ s.config.romEnd.val + 1) :
    s.handOff img =
      { state := { s with mem := s.mem.loadRom s.config.romEnd.val img, romPhase := .handedOff }, refusal := none } := by
  obtain ⟨hn, -⟩ | ⟨-, hlong, -⟩ | ⟨-, -, h⟩ := handOff_cases s img
  · exact absurd ha hn
  · omega
  · exact h

/-- An image longer than the ROM region is refused (R333). -/
theorem handOff_too_long {s : State} {img : List Byte} (ha : s.romPhase = .awaiting)
    (hl : s.config.romEnd.val + 1 < img.length) :
    s.handOff img = { state := { s with romPhase := .refused }, refusal := some (.imageTooLong img.length) } := by
  obtain ⟨hn, -⟩ | ⟨-, -, h⟩ | ⟨-, hfits, -⟩ := handOff_cases s img
  · exact absurd ha hn
  · exact h
  · omega

/-- The hand-off happens once (R332). -/
theorem handOff_again {s : State} (img : List Byte) (ha : s.romPhase ≠ .awaiting) :
    s.handOff img = { state := s, refusal := some .notTheFirst } := by
  obtain ⟨-, h⟩ | ⟨h, -⟩ | ⟨h, -⟩ := handOff_cases s img
  · exact h
  · exact absurd h ha
  · exact absurd h ha

/-- Settles O25, by the three cases of a hand-off and by what reads back of a loaded image. -/
theorem romHandOffFillsTheRomRegion : Obligations.RomHandOffFillsTheRomRegion := by
  intro s img
  refine ⟨fun ha hl => ⟨_, handOff_accepts ha hl, rfl, ?_, ?_, ?_⟩, fun ha hl => ⟨_, handOff_too_long ha hl, rfl, ?_⟩,
    handOff_again img⟩
  · intro x hx
    simp only [State.memRead, Memory.read_loadRom, if_pos hx]
  · intro x hx hrom
    simp only [State.memRead, Memory.read_loadRom, if_neg (Nat.not_lt.mpr hx)]
    exact if_pos hrom
  · intro x hrom
    have hx : ¬ x.toNat < img.length := fun h => hrom (Nat.le_of_lt_succ (Nat.lt_of_lt_of_le h hl))
    simp only [State.memRead, Memory.read_loadRom, if_neg hx]
    exact if_neg hrom
  · exact fun hm => step_without_rom hm (by simp)

/-! ### The regions of the address space -/

theorem regionOf_vram_iff (cfg : Config) (x : Word) :
    regionOf cfg x = .vram ↔ cfg.romEnd.val + 1 ≤ x.toNat ∧ x.toNat ≤ 0x9FFF := by
  unfold regionOf
  split_ifs <;> simp <;> omega

theorem regionOf_internalRam_iff (cfg : Config) (x : Word) :
    regionOf cfg x = .internalRam ↔ 0xA000 ≤ x.toNat ∧ x.toNat ≤ 0xFEFF := by
  have := cfg.romEnd.isLt
  unfold regionOf
  split_ifs <;> simp <;> omega

theorem regionOf_highRam_iff (cfg : Config) (x : Word) : regionOf cfg x = .highRam ↔ 0xFF00 ≤ x.toNat := by
  have := cfg.romEnd.isLt
  unfold regionOf
  split_ifs <;> simp <;> omega

/-! ### Byte and word stores -/

/-- A write to ROM changes no state (R57). -/
theorem memWrite_of_rom {s : State} {x : Word} (h : regionOf s.config x = .rom) (v : Byte) : s.memWrite x v = s := by
  simp only [State.memWrite, h]

/-- A byte store writes memory alone (R57). -/
theorem memWrite_eq (s : State) (x : Word) (v : Byte) :
    s.memWrite x v = { s with mem := if regionOf s.config x = .rom then s.mem else s.mem.write x.toNat v } := by
  cases h : regionOf s.config x <;> simp [State.memWrite, h]

/-- The memory a byte store leaves depends on memory and configuration alone. -/
theorem memWrite_mem_congr {s u : State} (hm : u.mem = s.mem) (hc : u.config = s.config) (x : Word) (v : Byte) :
    (u.memWrite x v).mem = (s.memWrite x v).mem := by
  simp [memWrite_eq, hm, hc]

theorem memWrite16_mem_congr {s u : State} (hm : u.mem = s.mem) (hc : u.config = s.config) (x v : Word) :
    (u.memWrite16 x v).mem = (s.memWrite16 x v).mem :=
  memWrite_mem_congr (memWrite_mem_congr hm hc x _) (by simpa) _ _

/-- Settles O26, region by region. -/
theorem everyAddressHasOneRegion : Obligations.EveryAddressHasOneRegion := by
  refine ⟨fun cfg x => ⟨regionOf_rom_iff cfg x, regionOf_vram_iff cfg x, regionOf_internalRam_iff cfg x,
    regionOf_highRam_iff cfg x, Nat.le_of_lt_succ cfg.romEnd.isLt⟩, rfl, fun s x v => ⟨fun h => memWrite_of_rom h v, ?_⟩⟩
  intro h
  rw [memRead_memWrite, if_pos ⟨rfl, h⟩]

/-- Settles O27, by the laws of a byte store and of byte composition. -/
theorem byteAndWordAccess : Obligations.ByteAndWordAccess := by
  intro s x
  refine ⟨fun v => ⟨stored_memWrite rfl rfl x v, sameMemory_memWrite rfl x v, ?_, ?_⟩, joinBytes_toNat _ _, fun v =>
    ⟨⟨stored_low_memWrite16 rfl rfl x v, stored_high_memWrite16 rfl rfl x v⟩, sameMemory_memWrite16 rfl x v, ?_⟩⟩
  · exact fun hx => memWrite_of_rom ((inRom_iff s x).mp hx) v
  · rw [memWrite_eq]
  · rw [State.memWrite16, memWrite_eq, memWrite_eq]

/-! ### The stack -/

/-- The word pushed to a writable place is the word on top (R62, R63). -/
theorem popValue_push16 {s : State} (h1 : ¬ InRom s (s.sp - 1)) (h2 : ¬ InRom s (s.sp - 2)) (v : Word) :
    (s.push16 v).popValue = v := by
  obtain ⟨-, hlo⟩ := stored_low_push16 (s := s) rfl rfl rfl v
  obtain ⟨-, hhi⟩ := stored_high_push16 (s := s) rfl rfl rfl v
  rw [State.popValue, State.memRead16, push16_sp, addr_sub_two_succ, hlo h2, hhi h1, joinBytes_hi_lo]

/-- `PUSH` leaves on the stack what a push does, its own fetch apart (R144). -/
theorem pushPair_mem (p : Pair) (s : State) : (pushPair p s).mem = (s.push16 (s.getPair p)).mem :=
  memWrite16_mem_congr (advance_mem s 1) (advance_config s 1) _ _

theorem popValue_pushPair (p : Pair) (s : State) : (pushPair p s).popValue = (s.push16 (s.getPair p)).popValue :=
  memRead16_congr (pushPair_mem p s) _

/-- Writing a pair with its own value keeps it, for `AF` too: `F` reads with a zero low nibble (R26). -/
theorem getPair_setPair_self (s : State) (p : Pair) : (s.setPair p (s.getPair p)).getPair p = s.getPair p := by
  cases p with
  | af => simp [State.getPair, State.readF, BitVec.and_assoc]
  | _ => simp [getPair_setPair]

/-- Writing a pair with the value it has in another state makes it the same (R23). -/
theorem getPair_setPair_of (s t : State) (p : Pair) : (t.setPair p (s.getPair p)).getPair p = s.getPair p := by
  rw [getPair_setPair, ← getPair_setPair s, getPair_setPair_self]

/-- Popping one word more: it is the last of the list. -/
theorem popAll_succ (n : Nat) (s : State) :
    popAll (n + 1) s = ((popAll n s).1 ++ [(popAll n s).2.popValue], (popAll n s).2.popDone) := by
  induction n generalizing s with
  | zero => rfl
  | succ n ih => rw [popAll, ih s.popDone]; rfl

/-- A pop writes no memory (R63). -/
theorem popAll_mem (n : Nat) (s : State) : (popAll n s).2.mem = s.mem := by
  induction n generalizing s with
  | zero => rfl
  | succ n ih => exact ih s.popDone

theorem addr_sub_two_sub (x : Word) (k : Nat) : x - 2 - BitVec.ofNat 16 k = x - BitVec.ofNat 16 (k + 2) := by
  bv_omega

/-- Addresses `n` above and `k` below `x` are apart while `n + k` is less than the address space (R50). -/
theorem addr_add_ne_sub {x : Word} {n k : Nat} (hk : 1 ≤ k) (hn : n + k < 65536) :
    x + BitVec.ofNat 16 n ≠ x - BitVec.ofNat 16 k := by
  bv_omega

/-- Pushing `vs` changes no byte but the `2 * vs.length` below `SP`. -/
theorem memRead_pushAll (vs : List Word) (s : State) (x : Word)
    (hx : ∀ k, 1 ≤ k → k ≤ 2 * vs.length → x ≠ s.sp - BitVec.ofNat 16 k) : (pushAll vs s).memRead x = s.memRead x := by
  induction vs generalizing s with
  | nil => rfl
  | cons v vs ih =>
    rw [List.length_cons] at hx
    have h1 : x ≠ s.sp - 1 := hx 1 (by omega) (by omega)
    have h2 : x ≠ s.sp - 2 := hx 2 (by omega) (by omega)
    calc (pushAll vs (s.push16 v)).memRead x
        = (s.push16 v).memRead x := ih _ fun k hk hle => by
          rw [push16_sp, addr_sub_two_sub]
          exact hx (k + 2) (by omega) (by omega)
      _ = s.memRead x := sameMemory_push16 rfl rfl v x (by simpa using ⟨h2, h1⟩)

/-- The word on top of a stack is still there under words pushed on it that do not wrap around to it. -/
theorem memRead16_pushAll (vs : List Word) (s : State) (hl : 2 * vs.length + 2 ≤ 65536) :
    (pushAll vs s).memRead16 s.sp = s.popValue := by
  have h0 := memRead_pushAll vs s (s.sp + BitVec.ofNat 16 0) fun k hk hle => addr_add_ne_sub hk (by omega)
  have h1 := memRead_pushAll vs s (s.sp + BitVec.ofNat 16 1) fun k hk hle => addr_add_ne_sub hk (by omega)
  rw [BitVec.add_zero] at h0
  exact congrArg₂ joinBytes h1 h0

/-- Words pushed to writable bytes are popped in reverse order, and `SP` is as before (R64). -/
theorem popAll_pushAll (vs : List Word) (s : State) (hl : 2 * vs.length ≤ 65536)
    (hw : ∀ k, 1 ≤ k → k ≤ 2 * vs.length → ¬ InRom s (s.sp - BitVec.ofNat 16 k)) :
    (popAll vs.length (pushAll vs s)).1 = vs.reverse ∧ (popAll vs.length (pushAll vs s)).2.sp = s.sp := by
  induction vs generalizing s with
  | nil => exact ⟨rfl, rfl⟩
  | cons v vs ih =>
    rw [List.length_cons] at hl hw ⊢
    obtain ⟨hwords, hsp⟩ := ih (s.push16 v) (by omega) fun k hk hle => by
      rw [InRom, push16_sp, push16_config, addr_sub_two_sub]
      exact hw (k + 2) (by omega) (by omega)
    have htop : (popAll vs.length (pushAll vs (s.push16 v))).2.popValue = v := by
      rw [State.popValue, hsp, memRead16_congr (popAll_mem _ _), memRead16_pushAll _ _ (by omega)]
      exact popValue_push16 (hw 1 (by omega) (by omega)) (hw 2 (by omega) (by omega)) v
    rw [pushAll, popAll_succ, hwords, htop, popDone_sp, hsp, List.reverse_cons]
    exact ⟨rfl, BitVec.sub_add_cancel _ _⟩

/-- Settles O40: one push is undone by one pop, and a list of pushes by induction on the list. -/
theorem stackIsLastInFirstOut : Obligations.StackIsLastInFirstOut := by
  refine ⟨fun p s h1 h2 => ⟨_, _, exec_push p s, exec_pop p _, ?_, ?_⟩, popAll_pushAll, fun p s =>
    ⟨_, _, exec_push p s, rfl, pushPair_mem p s, exec_pop p s, ?_, ?_, ?_⟩⟩
  · rw [popPair, popValue_pushPair, popValue_push16 h1 h2, getPair_setPair_of]
  · simp [popPair, pushPair]
  · simp [popPair, popAll]
  · simp [popPair, popAll]
  · intro hp
    rw [popPair, getPair_setPair, if_neg hp]
    rfl

end Sys2Proof.Machine
end

section
/-! SUPPORT. The family 30_encoding.md of the statements: the decoder and the encoder are inverse to each other (R80, R86),
from which the lengths (R99), the unmapped bytes (R97) and the CB page (R96) follow; one step and a bounded run (R85, R88, R89). -/

namespace Sys2Proof.Machine

/-! ### The CB page by its fields (R96) -/

theorem cbInstr_shift (op : ShiftOp) (o : Operand8) :
    cbInstr (BitVec.ofNat 8 (8 * op.code + o.code)) = Instr.shift op o := by
  cases op <;> obtain ⟨_ | _⟩ | _ := o <;> rfl

theorem cbInstr_bit (n : Fin 8) (o : Operand8) :
    cbInstr (BitVec.ofNat 8 (0x40 + 8 * n.val + o.code)) = Instr.bit n o := by
  fin_cases n <;> obtain ⟨_ | _⟩ | _ := o <;> rfl

theorem cbInstr_res (n : Fin 8) (o : Operand8) :
    cbInstr (BitVec.ofNat 8 (0x80 + 8 * n.val + o.code)) = Instr.res n o := by
  fin_cases n <;> obtain ⟨_ | _⟩ | _ := o <;> rfl

theorem cbInstr_set (n : Fin 8) (o : Operand8) :
    cbInstr (BitVec.ofNat 8 (0xC0 + 8 * n.val + o.code)) = Instr.set n o := by
  fin_cases n <;> obtain ⟨_ | _⟩ | _ := o <;> rfl

theorem shiftOp_of_code {y : Nat} (hy : y < 8) : ∃ op : ShiftOp, op.code = y := by
  interval_cases y
  exacts [⟨.rlc, rfl⟩, ⟨.rrc, rfl⟩, ⟨.rl, rfl⟩, ⟨.rr, rfl⟩, ⟨.sla, rfl⟩, ⟨.sra, rfl⟩, ⟨.swap, rfl⟩, ⟨.srl, rfl⟩]

theorem operand8_of_code {z : Nat} (hz : z < 8) : ∃ o : Operand8, o.code = z := by
  interval_cases z
  exacts [⟨.reg .b, rfl⟩, ⟨.reg .c, rfl⟩, ⟨.reg .d, rfl⟩, ⟨.reg .e, rfl⟩, ⟨.reg .h, rfl⟩, ⟨.reg .l, rfl⟩, ⟨.atHL, rfl⟩,
    ⟨.reg .a, rfl⟩]

/-- Every second byte has the fields of one of the four kinds of CB-page instruction. -/
theorem cbByte_cases (b : Byte) :
    (∃ (op : ShiftOp) (o : Operand8), b = BitVec.ofNat 8 (8 * op.code + o.code)) ∨
    (∃ (n : Fin 8) (o : Operand8), b = BitVec.ofNat 8 (0x40 + 8 * n.val + o.code) ∨
      b = BitVec.ofNat 8 (0x80 + 8 * n.val + o.code) ∨ b = BitVec.ofNat 8 (0xC0 + 8 * n.val + o.code)) := by
  have hb := b.isLt
  have of_toNat : ∀ m, b.toNat = m → b = BitVec.ofNat 8 m := by rintro _ rfl; simp
  obtain ⟨op, hop⟩ := shiftOp_of_code (Nat.mod_lt (b.toNat / 8) (by decide : 0 < 8))
  obtain ⟨n, hn⟩ : ∃ n : Fin 8, n.val = b.toNat / 8 % 8 := ⟨⟨_, Nat.mod_lt _ (by decide)⟩, rfl⟩
  obtain ⟨o, ho⟩ := operand8_of_code (Nat.mod_lt b.toNat (by decide : 0 < 8))
  obtain hx | hx | hx | hx : b.toNat / 64 = 0 ∨ b.toNat / 64 = 1 ∨ b.toNat / 64 = 2 ∨ b.toNat / 64 = 3 := by omega
  · exact .inl ⟨op, o, of_toNat _ (by omega)⟩
  · exact .inr ⟨n, o, .inl (of_toNat _ (by omega))⟩
  · exact .inr ⟨n, o, .inr (.inl (of_toNat _ (by omega)))⟩
  · exact .inr ⟨n, o, .inr (.inr (of_toNat _ (by omega)))⟩

/-! ### The opcode maps against the encoder -/

theorem exists_eq_ofNat (b : Byte) : ∃ k < 256, b = BitVec.ofNat 8 k := ⟨b.toNat, b.isLt, by simp⟩

/-- Each instruction of the CB page is 0xCB and the byte that selects it, and belongs to a populated page. -/
theorem cbInstr_spec (b : Byte) :
    encode (cbInstr b) = [0xCB#8, b] ∧ ∀ cfg, (cbInstr b).wellFormed cfg = decide (cfg.cbPage = .populated) := by
  obtain ⟨k, hk, rfl⟩ := exists_eq_ofNat b
  interval_cases k <;> exact ⟨rfl, fun _ => rfl⟩

/-- The encoder gives the instructions of an entry the bytes the map reads them from, the opcode byte and the operand, and
they are well formed in every configuration; the three other kinds of entry stand at the bytes R95 and R97 give them. -/
inductive EntryAt (b0 : Byte) : MapEntry → Prop
  | op {i : Instr} (he : encode i = [b0]) (hw : ∀ cfg, i.wellFormed cfg = true) : EntryAt b0 (.op i)
  | n8 {i : Byte → Instr} (he : ∀ n, encode (i n) = [b0, n]) (hw : ∀ n cfg, (i n).wellFormed cfg = true) :
      EntryAt b0 (.n8 i)
  | n16 {i : Word → Instr} (he : ∀ nn, encode (i nn) = [b0, loByte nn, hiByte nn])
      (hw : ∀ nn cfg, (i nn).wellFormed cfg = true) : EntryAt b0 (.n16 i)
  | cb (h : b0 = 0xCB#8) : EntryAt b0 .cb
  | stop (h : b0 = 0x10#8) : EntryAt b0 .stop
  | unmapped (h : unmappedBytes.contains b0 = true) : EntryAt b0 .unmapped

theorem entryAt_mainEntry (b0 : Byte) : EntryAt b0 (mainEntry b0) := by
  obtain ⟨k, hk, rfl⟩ := exists_eq_ofNat b0
  interval_cases k <;> constructor <;> intros <;> rfl

/-- The eleven bytes of R97 are unmapped in the map of R95. -/
theorem mainEntry_unmapped : ∀ op ∈ unmappedBytes, mainEntry op = .unmapped := by
  simp only [unmappedBytes, List.forall_mem_cons]
  exact ⟨rfl, rfl, rfl, rfl, rfl, rfl, rfl, rfl, rfl, rfl, rfl, nofun⟩

theorem mainEntry_cb : mainEntry 0xCB#8 = .cb := rfl
theorem mainEntry_stop : mainEntry 0x10#8 = .stop := rfl

/-- Where the CB page is populated, the byte 0xCB selects by the byte after it. -/
theorem decodeBytes_cb {cfg : Config} (h : cfg.cbPage = .populated) (b1 b2 : Byte) :
    decodeBytes cfg 0xCB#8 b1 b2 = cbInstr b1 := by
  rw [decodeBytes, mainEntry_cb, h]

/-! ### From bytes to the instruction and back -/

/-- The encoder's bytes are as many as the length of the instruction (R80, R99). -/
theorem length_encode (i : Instr) : (encode i).length = i.length := by
  cases i with
  | stop ignored => cases ignored <;> rfl
  | _ => rfl

/-- An instruction the decoder answers is well formed, and its bytes are the first of those read, the opcode byte at
least. -/
theorem decodeBytes_spec (cfg : Config) (b0 b1 b2 : Byte) :
    (decodeBytes cfg b0 b1 b2).wellFormed cfg = true ∧
    ∃ tail, encode (decodeBytes cfg b0 b1 b2) = b0 :: tail ∧ tail <+: [b1, b2] := by
  have hat := entryAt_mainEntry b0
  unfold decodeBytes
  generalize mainEntry b0 = entry at hat ⊢
  cases hat with
  | op he hw => exact ⟨hw cfg, [], he, by simp⟩
  | n8 he hw => exact ⟨hw b1 cfg, [b1], he b1, by simp⟩
  | n16 he hw => exact ⟨hw _ cfg, [b1, b2], by simpa using he (joinBytes b2 b1), by simp⟩
  | cb h =>
    subst h
    cases hc : cfg.cbPage with
    | populated =>
      obtain ⟨henc, hwf⟩ := cbInstr_spec b1
      exact ⟨by simp [hwf, hc], [b1], henc, by simp⟩
    | absent => exact ⟨by simp [Instr.wellFormed, hc], [], rfl, by simp⟩
  | stop h =>
    subst h
    cases hs : cfg.stopLength with
    | one => exact ⟨by simp [Instr.wellFormed, hs], [], rfl, by simp⟩
    | two => exact ⟨by simp [Instr.wellFormed, hs], [b1], rfl, by simp⟩
  | unmapped h => exact ⟨h, [], rfl, by simp⟩

/-- The bytes of an instruction select it, whatever follows them. -/
def SelectedByItsBytes (cfg : Config) (i : Instr) : Prop :=
  ∀ rest, decodeBytes cfg ((encode i ++ rest).getD 0 0#8) ((encode i ++ rest).getD 1 0#8) ((encode i ++ rest).getD 2 0#8) = i

namespace SelectedByItsBytes

variable {cfg : Config} {i : Instr} {b0 : Byte}

theorem of_op (he : encode i = [b0]) (hm : mainEntry b0 = .op i) : SelectedByItsBytes cfg i := by
  intro rest
  rw [he]
  change decodeBytes cfg b0 _ _ = i
  rw [decodeBytes, hm]

theorem of_n8 {f : Byte → Instr} {n : Byte} (he : encode (f n) = [b0, n]) (hm : mainEntry b0 = .n8 f) :
    SelectedByItsBytes cfg (f n) := by
  intro rest
  rw [he]
  change decodeBytes cfg b0 n _ = f n
  rw [decodeBytes, hm]

theorem of_n16 {f : Word → Instr} {nn : Word} (he : encode (f nn) = [b0, loByte nn, hiByte nn])
    (hm : mainEntry b0 = .n16 f) : SelectedByItsBytes cfg (f nn) := by
  intro rest
  rw [he]
  change decodeBytes cfg b0 (loByte nn) (hiByte nn) = f nn
  rw [decodeBytes, hm]
  exact congrArg f (joinBytes_hi_lo nn)

theorem of_cb {b : Byte} (hi : (cbInstr b).wellFormed cfg = true) : SelectedByItsBytes cfg (cbInstr b) := by
  intro rest
  obtain ⟨he, hw⟩ := cbInstr_spec b
  rw [he]
  exact decodeBytes_cb (by simpa [hw] using hi) b _

theorem of_stop {ignored : Option Byte} (hi : (Instr.stop ignored).wellFormed cfg = true) :
    SelectedByItsBytes cfg (.stop ignored) := by
  intro rest
  cases ignored with
  | none =>
    have hs : cfg.stopLength = .one := by cases h : cfg.stopLength <;> simp_all [Instr.wellFormed]
    change decodeBytes cfg 0x10#8 _ _ = _
    rw [decodeBytes, mainEntry_stop, hs]
  | some n =>
    have hs : cfg.stopLength = .two := by simpa [Instr.wellFormed] using hi
    change decodeBytes cfg 0x10#8 n _ = _
    rw [decodeBytes, mainEntry_stop, hs]

theorem of_unmapped {op : Byte} (hi : op ∈ unmappedBytes) : SelectedByItsBytes cfg (.unmapped op) := by
  intro rest
  change decodeBytes cfg op _ _ = _
  rw [decodeBytes, mainEntry_unmapped op hi]

theorem of_absent (hc : cfg.cbPage = .absent) : SelectedByItsBytes cfg .prefixCB := by
  intro rest
  change decodeBytes cfg 0xCB#8 _ _ = _
  rw [decodeBytes, mainEntry_cb, hc]

end SelectedByItsBytes

open SelectedByItsBytes in
/-- Every well-formed instruction is selected by its bytes: one case per family of the opcode table, by the entry of the
main page at its opcode byte or by its fields in the CB page. -/
theorem selectedByItsBytes {cfg : Config} (i : Instr) (hi : i.wellFormed cfg = true) : SelectedByItsBytes cfg i := by
  induction i using byFamily with
  | ldRegReg dst r => cases dst <;> cases r <;> exact of_op rfl rfl
  | ldRegImm r n => cases r <;> exact of_n8 rfl rfl
  | ldRegMem r | ldMemReg r => cases r <;> exact of_op rfl rfl
  | ldReg16Imm r nn => cases r <;> exact of_n16 rfl rfl
  | push p | pop p => cases p <;> exact of_op rfl rfl
  | alu op o => cases op <;> obtain ⟨_ | _⟩ | _ := o <;> exact of_op rfl rfl
  | aluImm op n => cases op <;> exact of_n8 rfl rfl
  | inc8 o | dec8 o => obtain ⟨_ | _⟩ | _ := o <;> exact of_op rfl rfl
  | addHl r | inc16 r | dec16 r => cases r <;> exact of_op rfl rfl
  | shift op o => rw [← cbInstr_shift] at hi ⊢; exact of_cb hi
  | bit n o => rw [← cbInstr_bit] at hi ⊢; exact of_cb hi
  | res n o => rw [← cbInstr_res] at hi ⊢; exact of_cb hi
  | set n o => rw [← cbInstr_set] at hi ⊢; exact of_cb hi
  | jpIf cc nn | callIf cc nn => cases cc <;> exact of_n16 rfl rfl
  | jrIf cc e => cases cc <;> exact of_n8 rfl rfl
  | retIf cc => cases cc <;> exact of_op rfl rfl
  | rst y => fin_cases y <;> exact of_op rfl rfl
  | ld_atNN_SP | jp_nn | call_nn | ld_atNN_A | ld_A_atNN => exact of_n16 rfl rfl
  | jr_e | ld_atHL_n | ldh_atN_A | add_SP_e | ldh_A_atN | ld_HL_SPe => exact of_n8 rfl rfl
  | stop ignored => exact of_stop hi
  | unmapped op => exact of_unmapped (List.contains_iff_mem.1 hi)
  | prefixCB => exact of_absent (by simpa [Instr.wellFormed] using hi)
  | _ => exact of_op rfl rfl

theorem decode_cons_iff {cfg : Config} {b0 : Byte} {bytes rest : List Byte} {i : Instr} :
    decode cfg (b0 :: bytes) = .ok (i, rest) ↔
      decodeBytes cfg b0 (bytes.getD 0 0#8) (bytes.getD 1 0#8) = i ∧ i.length ≤ bytes.length + 1 ∧
        bytes.drop (i.length - 1) = rest := by
  rw [decode]
  constructor
  · intro h
    split at h
    next hl => cases h; exact ⟨rfl, hl, rfl⟩
    next => cases h
  · rintro ⟨rfl, hl, rfl⟩
    exact if_pos hl

/-- Settles O1: the bytes of an instruction select it, and its length is the number of its bytes. -/
theorem decodeOfEncodeIsTheInstruction : Obligations.DecodeOfEncodeIsTheInstruction := by
  intro cfg i rest hi
  have hsel := selectedByItsBytes i hi rest
  obtain ⟨-, tail, he, -⟩ := hsel ▸ decodeBytes_spec cfg _ _ _
  have hl : i.length = tail.length + 1 := by rw [← length_encode, he, List.length_cons]
  rw [he, List.cons_append] at hsel ⊢
  exact decode_cons_iff.2 ⟨hsel, by simp [hl], by simp [hl]⟩

/-- The two bytes after the first that the decoder is given, zeros where the list ends, begin the list so continued. -/
theorem operandBytes_prefix (bytes : List Byte) :
    [bytes.getD 0 0#8, bytes.getD 1 0#8] <+: bytes ++ [0#8, 0#8] := by
  obtain _ | ⟨b1, _ | ⟨b2, bytes⟩⟩ := bytes <;> simp

/-- Settles O2: the instruction's bytes begin the list continued with zeros, and are no more than the list has. -/
theorem encodeOfDecodeIsTheBytes : Obligations.EncodeOfDecodeIsTheBytes := by
  intro cfg bytes rest i h
  obtain _ | ⟨b0, bytes⟩ := bytes
  · cases h
  obtain ⟨rfl, hl, hrest⟩ := decode_cons_iff.1 h
  obtain ⟨hwf, tail, he, htail⟩ := decodeBytes_spec cfg b0 (bytes.getD 0 0#8) (bytes.getD 1 0#8)
  rw [← length_encode, he, List.length_cons] at hl hrest
  obtain ⟨left, rfl⟩ : tail <+: bytes :=
    List.prefix_of_prefix_length_le (htail.trans (operandBytes_prefix bytes)) (List.prefix_append _ _) (by omega)
  refine ⟨hwf, ?_⟩
  rw [he, ← hrest]
  simp

/-! ### Lengths and unmapped bytes -/

/-- The bytes an entry of the main-page map takes with the CB page populated (R80, R96, R99). -/
def entryLength (stopLength : StopLength) : MapEntry → Nat
  | .op _ | .unmapped => 1
  | .n8 _ | .cb => 2
  | .n16 _ => 3
  | .stop =>
    match stopLength with
    | .one => 1
    | .two => 2

theorem length_decodeBytes {cfg : Config} (hc : cfg.cbPage = .populated) (b0 b1 b2 : Byte) :
    (decodeBytes cfg b0 b1 b2).length = entryLength cfg.stopLength (mainEntry b0) := by
  have hat := entryAt_mainEntry b0
  unfold decodeBytes
  generalize mainEntry b0 = entry at hat ⊢
  cases hat with
  | op he | n8 he | n16 he => rw [← length_encode, he]; rfl
  | cb =>
    obtain ⟨henc, -⟩ := cbInstr_spec b1
    rw [hc, ← length_encode, henc]
    rfl
  | stop => cases cfg.stopLength <;> rfl
  | unmapped => rfl

/-- Settles O4: the length is that of the map's entry, and the entries have the listed lengths. -/
theorem lengthIsAFunctionOfTheFirstByte : Obligations.LengthIsAFunctionOfTheFirstByte := by
  intro cfg b0 b1 b2 hc
  rw [length_decodeBytes hc]
  generalize cfg.stopLength = stopLength
  revert b0
  cases stopLength <;> decide

theorem decodeBytes_eq_unmapped_iff {cfg : Config} {b0 b1 b2 op : Byte} :
    decodeBytes cfg b0 b1 b2 = .unmapped op ↔ op = b0 ∧ b0 ∈ unmappedBytes := by
  constructor
  · intro h
    obtain ⟨hwf, tail, he, -⟩ := h ▸ decodeBytes_spec cfg b0 b1 b2
    obtain ⟨rfl, -⟩ := List.cons_eq_cons.1 he
    exact ⟨rfl, List.contains_iff_mem.1 hwf⟩
  · rintro ⟨rfl, hmem⟩
    exact SelectedByItsBytes.of_unmapped hmem [b1, b2]

theorem decodeBytes_eq_prefixCB_iff {cfg : Config} {b0 b1 b2 : Byte} :
    decodeBytes cfg b0 b1 b2 = .prefixCB ↔ b0 = 0xCB#8 ∧ cfg.cbPage = .absent := by
  constructor
  · intro h
    obtain ⟨hwf, tail, he, -⟩ := h ▸ decodeBytes_spec cfg b0 b1 b2
    obtain ⟨rfl, -⟩ := List.cons_eq_cons.1 he
    exact ⟨rfl, of_decide_eq_true hwf⟩
  · rintro ⟨rfl, hc⟩
    exact SelectedByItsBytes.of_absent hc [b1, b2]

/-- Settles O5, by what `unmapped` and `prefixCB` encode to and when they are well formed. -/
theorem unmappedBytesAreExactlyEleven : Obligations.UnmappedBytesAreExactlyEleven := by
  intro cfg b0 b1 b2
  refine ⟨⟨?_, fun h => ⟨b0, decodeBytes_eq_unmapped_iff.2 ⟨rfl, h⟩⟩⟩, ?_, decodeBytes_eq_prefixCB_iff, ?_⟩
  · rintro ⟨op, h⟩
    exact (decodeBytes_eq_unmapped_iff.1 h).2
  · exact fun op h => (decodeBytes_eq_unmapped_iff.1 h).1
  · rintro i s - (rfl | rfl)
    · exact ⟨s.raiseDecodeError [b0], rfl, rfl⟩
    · exact ⟨s.raiseDecodeError [0xCB#8], rfl, rfl⟩

/-- Settles O6, by the fields of the second byte. -/
theorem cbPageMapsEveryByteByItsFields : Obligations.CbPageMapsEveryByteByItsFields := by
  intro cfg b2
  refine ⟨fun hc => ⟨fun op o => ?_, fun n o => ⟨?_, ?_, ?_⟩, cbByte_cases⟩, fun hc b1 =>
    ⟨decodeBytes_eq_prefixCB_iff.2 ⟨rfl, hc⟩, rfl, fun s => ⟨s.raiseDecodeError [0xCB#8], rfl, rfl⟩⟩⟩
  · rw [decodeBytes_cb hc, cbInstr_shift]
  · rw [decodeBytes_cb hc, cbInstr_bit]
  · rw [decodeBytes_cb hc, cbInstr_res]
  · rw [decodeBytes_cb hc, cbInstr_set]

/-- Settles O3, by running the decoder on each word. -/
theorem sampleWordsDecodeAsTheSpecSays : Obligations.SampleWordsDecodeAsTheSpecSays :=
  ⟨rfl, rfl, rfl, rfl, rfl, rfl, rfl, rfl, rfl, rfl, rfl, rfl⟩

/-! ### The step and the bounded run -/

/-- The commit of a delayed `EI`, in the words of R85. -/
theorem commitDelayedEi_eq_ite (s : State) (pend : Bool) :
    s.commitDelayedEi pend =
      if pend = true ∧ s.imePending = true ∧ s.mode ≠ .faulted then { s with ime := true, imePending := false } else s := by
  simp [State.commitDelayedEi, State.setIme, and_assoc]

/-- Settles O7: the step fetches what the decoder reads at `PC`, and every instruction completes. -/
theorem stepRunsTheDecodedInstruction : Obligations.StepRunsTheDecodedInstruction := by
  intro s i rest hm hr hd
  have hfetch : s.fetchInstr = i := (decode_cons_iff.1 hd).1
  obtain ⟨t, hx, -⟩ := completes i s
  refine ⟨t, hx, ?_⟩
  rw [step_running hm hr, hfetch, hx]
  exact congrArg _ (commitDelayedEi_eq_ite t s.imePending)

/-- Settles O9: outside Running there is no step. -/
theorem haltedAndFaultedHaveNoStep : Obligations.HaltedAndFaultedHaveNoStep := by
  rintro s (hm | hm) <;> exact step_not_running (by simp [hm])

/-- Outside Running a run is over, whatever its bound (R88, R89). -/
theorem run_not_running {s : State} (hm : s.mode ≠ .running) (bound : Nat) : run bound s = .next s := by
  cases bound with
  | zero => rfl
  | succ bound =>
    cases h : s.mode with
    | running => exact absurd h hm
    | halted | faulted => simp only [run, h]

theorem run_succ_running {s : State} (hm : s.mode = .running) (bound : Nat) :
    run (bound + 1) s = match step s with
      | .next t => run bound t
      | .fault r => .fault r
      | .refused r => .refused r := by
  cases hs : step s <;> simp only [run, hm, hs]

/-- Settles O23, by induction on the first bound: outside Running both runs are over, and in Running both begin with the
same step. -/
theorem boundedRunsCompose : Obligations.BoundedRunsCompose := by
  refine ⟨fun m n => ?_, fun s => ?_⟩
  · induction m with
    | zero => rintro s t ⟨⟩; rw [Nat.zero_add]
    | succ m ih =>
      intro s t h
      rw [Nat.add_right_comm]
      by_cases hm : s.mode = .running
      · rw [run_succ_running hm] at h ⊢
        cases hs : step s with
        | next u => rw [hs] at h; exact ih u t h
        | fault | refused => rw [hs] at h; cases h
      · rw [run_not_running hm] at h ⊢
        cases h
        rw [run_not_running hm]
  · by_cases hm : s.mode = .running
    · rw [run_succ_running hm]
      cases step s <;> rfl
    · rw [run_not_running hm, step_not_running hm]

end Sys2Proof.Machine
end

section
/-! SUPPORT. The family 40_load8.md of the statements: the frames of the updates, and the one outcome of every 8-bit load
and of every 8-bit store. -/

namespace Sys2Proof.Machine

/-! ### Frames -/

/-- The frames of two updates done in turn: what neither changes is unchanged. -/
theorem OnlyChanges.trans {s t u : State} {regs regs' : List Reg} {flags flags' : List Flag} {addrs addrs' : List Word}
    (h : OnlyChanges s t regs flags addrs) (h' : OnlyChanges t u regs' flags' addrs') :
    OnlyChanges s u (regs ++ regs') (flags ++ flags') (addrs ++ addrs') := by
  obtain ⟨hregs, hflags, hmem, ⟨hmode, hcause, hfault, hrom, hconfig⟩, hime, hpending⟩ := h
  obtain ⟨hregs', hflags', hmem', ⟨hmode', hcause', hfault', hrom', hconfig'⟩, hime', hpending'⟩ := h'
  simp only [OnlyChanges, SameRegsBut, SameFlagsBut, SameMemoryBut, List.mem_append, not_or]
  exact ⟨fun r hr => (hregs' r hr.2).trans (hregs r hr.1), fun fl hfl => (hflags' fl hfl.2).trans (hflags fl hfl.1),
    fun x hx => (hmem' x hx.2).trans (hmem x hx.1),
    ⟨hmode'.trans hmode, hcause'.trans hcause, hfault'.trans hfault, hrom'.trans hrom, hconfig'.trans hconfig⟩,
    hime'.trans hime, hpending'.trans hpending⟩

theorem onlyChanges_advance (s : State) (n : Nat) : OnlyChanges s (s.advance n) [] [] [] :=
  ⟨fun q _ => getReg_advance s n q, fun _ _ => rfl, fun _ _ => rfl, ⟨rfl, rfl, rfl, rfl, rfl⟩, rfl, rfl⟩

theorem onlyChanges_setReg (s : State) (r : Reg) (v : Byte) : OnlyChanges s (s.setReg r v) [r] [] [] := by
  refine ⟨fun q hq => ?_, fun fl _ => getFlag_setReg s r v fl, fun x _ => memRead_setReg s r v x, ?_, ?_⟩
  · rw [getReg_setReg, if_neg (Ne.symm (List.ne_of_not_mem_cons hq))]
  · simp [SameMode]
  · simp [SameEnable]

theorem onlyChanges_memWrite (s : State) (x : Word) (v : Byte) : OnlyChanges s (s.memWrite x v) [] [] [x] := by
  refine ⟨fun q _ => getReg_memWrite s x v q, fun fl _ => getFlag_memWrite s x v fl, sameMemory_memWrite rfl x v, ?_, ?_⟩
  · simp [SameMode]
  · simp [SameEnable]

theorem onlyChanges_setPair (s : State) (p : Pair) (v : Word) : OnlyChanges s (s.setPair p v) p.regs p.flags [] := by
  obtain ⟨-, -, -, hpair⟩ := pairsAreViewsOfTheRegisters s v
  exact (hpair p).1

/-- `HL` is kept where neither `H` nor `L` may change (R22). -/
theorem OnlyChanges.hl_eq {s t : State} {regs : List Reg} {flags : List Flag} {addrs : List Word}
    (h : OnlyChanges s t regs flags addrs) (hnh : .h ∉ regs) (hnl : .l ∉ regs) : hl t = hl s := by
  obtain ⟨hregs, -⟩ := h
  exact congrArg₂ joinBytes (hregs .h hnh) (hregs .l hnl)

/-! ### The outcome of a load and of a store -/

/-- A register loaded with `v` by an instruction of `n` bytes (R110–R112). -/
theorem setReg_advance_outcome (s : State) (n : Nat) (r : Reg) (v : Byte) :
    ((s.advance n).setReg r v).getReg r = v ∧ ((s.advance n).setReg r v).pc = s.pc + BitVec.ofNat 16 n ∧
      ((s.advance n).setReg r v).sp = s.sp ∧ OnlyChanges s ((s.advance n).setReg r v) [r] [] [] :=
  ⟨by simp, by simp, by simp, (onlyChanges_advance s n).trans (onlyChanges_setReg _ r v)⟩

/-- A byte `v` stored at `x` by an instruction of `n` bytes (R113, R114). -/
theorem memWrite_advance_outcome (s : State) (n : Nat) (x : Word) (v : Byte) :
    Stored s ((s.advance n).memWrite x v) x v ∧ ((s.advance n).memWrite x v).pc = s.pc + BitVec.ofNat 16 n ∧
      ((s.advance n).memWrite x v).sp = s.sp ∧ OnlyChanges s ((s.advance n).memWrite x v) [] [] [x] :=
  ⟨stored_memWrite (advance_mem s n) (advance_config s n) x v, by simp, by simp,
    (onlyChanges_advance s n).trans (onlyChanges_memWrite _ x v)⟩

theorem loadsA_loadA (len : Nat) (x : Word) (s : State) : LoadsA s (loadA len x s) len x :=
  setReg_advance_outcome s len .a (s.memRead x)

theorem storesA_storeA (len : Nat) (x : Word) (s : State) : StoresA s (storeA len x s) len x :=
  memWrite_advance_outcome s len x s.a

/-! ### The step of `HL` (R125–R128) -/

theorem hl_setPair_hl (s : State) (v : Word) : hl (s.setPair .hl v) = v := getPair_setPair s .hl v

theorem hl_incHL (s : State) : hl (incHL s) = hl s + 1 := hl_setPair_hl s _

theorem hl_decHL (s : State) : hl (decHL s) = hl s - 1 := hl_setPair_hl s _

theorem onlyChanges_incHL (s : State) : OnlyChanges s (incHL s) [.h, .l] [] [] := onlyChanges_setPair s .hl _

theorem onlyChanges_decHL (s : State) : OnlyChanges s (decHL s) [.h, .l] [] [] := onlyChanges_setPair s .hl _

/-! ### The encodings of the families -/

theorem encode_ldRegReg (dst r : Reg) :
    encode (Instr.ldRegReg dst r) = [BitVec.ofNat 8 (0x40 + 8 * dst.code + r.code)] := by
  cases dst <;> cases r <;> rfl

theorem encode_ldRegImm (dst : Reg) (n : Byte) :
    encode (Instr.ldRegImm dst n) = [BitVec.ofNat 8 (0x06 + 8 * dst.code), n] := by
  cases dst <;> rfl

theorem encode_ldRegMem (dst : Reg) : encode (Instr.ldRegMem dst) = [BitVec.ofNat 8 (0x46 + 8 * dst.code)] := by
  cases dst <;> rfl

theorem encode_ldMemReg (r : Reg) : encode (Instr.ldMemReg r) = [BitVec.ofNat 8 (0x70 + r.code)] := by
  cases r <;> rfl

/-! ### The statements -/

/-- Settles O30: each form is a load of the destination register. -/
theorem loadRegister8 : Obligations.LoadRegister8 := fun s dst =>
  ⟨fun r => ⟨encode_ldRegReg dst r, _, exec_ldRegReg dst r s, setReg_advance_outcome s 1 dst _⟩,
    fun n => ⟨encode_ldRegImm dst n, _, exec_ldRegImm dst n s, setReg_advance_outcome s 2 dst n⟩,
    encode_ldRegMem dst, _, exec_ldRegMem dst s, setReg_advance_outcome s 1 dst _⟩

/-- Settles O31: each form is a store at `HL`. -/
theorem storeAtHl : Obligations.StoreAtHl := fun s =>
  ⟨fun r => ⟨encode_ldMemReg r, _, exec_ldMemReg r s, memWrite_advance_outcome s 1 (hl s) _⟩,
    fun n => ⟨rfl, _, rfl, memWrite_advance_outcome s 2 (hl s) n⟩⟩

/-- Settles O32: each form loads `A` from its address. -/
theorem loadAccumulator : Obligations.LoadAccumulator := fun s =>
  ⟨⟨rfl, _, rfl, loadsA_loadA 1 _ s⟩, ⟨rfl, _, rfl, loadsA_loadA 1 _ s⟩, fun nn => ⟨rfl, _, rfl, loadsA_loadA 3 nn s⟩,
    fun n => ⟨rfl, _, rfl, loadsA_loadA 2 (highPage n) s⟩, rfl, _, rfl, loadsA_loadA 1 (highPage s.c) s⟩

/-- Settles O33: each form stores `A` at its address. -/
theorem storeAccumulator : Obligations.StoreAccumulator := fun s =>
  ⟨⟨rfl, _, rfl, storesA_storeA 1 _ s⟩, ⟨rfl, _, rfl, storesA_storeA 1 _ s⟩,
    fun nn => ⟨rfl, _, rfl, storesA_storeA 3 nn s⟩, fun n => ⟨rfl, _, rfl, storesA_storeA 2 (highPage n) s⟩,
    rfl, _, rfl, storesA_storeA 1 (highPage s.c) s⟩

/-- Settles O34: the access is that of `A` at `HL`, which keeps `HL`; the step of `HL` after it keeps the rest. -/
theorem loadAndStoreWithHlStep : Obligations.LoadAndStoreWithHlStep := by
  intro s
  obtain ⟨hstored, hpcStore, hspStore, hstore⟩ := storesA_storeA 1 (hl s) s
  obtain ⟨hloaded, hpcLoad, hspLoad, hload⟩ := loadsA_loadA 1 (hl s) s
  have hlStore : hl (storeA 1 (hl s) s) = hl s := hstore.hl_eq (by simp) (by simp)
  have hlLoad : hl (loadA 1 (hl s) s) = hl s := hload.hl_eq (by simp) (by simp)
  refine ⟨⟨rfl, _, rfl, hstored, ?_, hpcStore, hspStore, hstore.trans (onlyChanges_incHL _)⟩,
    ⟨rfl, _, rfl, hstored, ?_, hpcStore, hspStore, hstore.trans (onlyChanges_decHL _)⟩,
    ⟨rfl, _, rfl, hloaded, ?_, hpcLoad, hspLoad, hload.trans (onlyChanges_incHL _)⟩,
    ⟨rfl, _, rfl, hloaded, ?_, hpcLoad, hspLoad, hload.trans (onlyChanges_decHL _)⟩⟩
  · exact (hl_incHL _).trans (congrArg (· + 1) hlStore)
  · exact (hl_decHL _).trans (congrArg (· - 1) hlStore)
  · exact (hl_incHL _).trans (congrArg (· + 1) hlLoad)
  · exact (hl_decHL _).trans (congrArg (· - 1) hlLoad)

end Sys2Proof.Machine
end

section
/-! SUPPORT. The family 41_load16.md of the statements: the frames of the 16-bit updates, what `SpOffset` computes, and the
16-bit loads, pushes and pops. -/

namespace Sys2Proof.Machine

/-! ### Frames -/

theorem onlyChanges_setSp (s : State) (v : Word) : OnlyChanges s (s.setSp v) [] [] [] :=
  ⟨fun q _ => getReg_setSp s v q, fun _ _ => rfl, fun _ _ => rfl, ⟨rfl, rfl, rfl, rfl, rfl⟩, rfl, rfl⟩

theorem onlyChanges_setReg16 (s : State) (r : Reg16) (v : Word) : OnlyChanges s (s.setReg16 r v) r.regs [] [] := by
  cases r with
  | bc => exact onlyChanges_setPair s .bc v
  | de => exact onlyChanges_setPair s .de v
  | hl => exact onlyChanges_setPair s .hl v
  | sp => exact onlyChanges_setSp s v

theorem onlyChanges_setFlagsFrom {w : Nat} (s : State) (r : AluResult w) :
    OnlyChanges s (s.setFlagsFrom r) [] [.z, .n, .h, .c] [] := by
  refine ⟨fun q _ => getReg_setFlagsFrom s r q, fun fl hfl => ?_, fun x _ => memRead_setFlagsFrom s r x, ?_, ?_⟩
  · cases fl <;> simp at hfl
  · simp [SameMode]
  · simp [SameEnable]

theorem onlyChanges_memWrite16 (s : State) (x v : Word) : OnlyChanges s (s.memWrite16 x v) [] [] [x, x + 1] :=
  (onlyChanges_memWrite s x (loByte v)).trans (onlyChanges_memWrite _ (x + 1) (hiByte v))

/-- A push changes the two bytes below `SP`, and `SP` (R62). -/
theorem onlyChanges_push16 (s : State) (v : Word) : OnlyChanges s (s.push16 v) [] [] [s.sp - 2, s.sp - 1] := by
  rw [← addr_sub_two_succ]
  exact (onlyChanges_memWrite16 s (s.sp - 2) v).trans (onlyChanges_setSp _ (s.sp - 2))

/-! ### What the writes of a 16-bit register and of `AF` leave -/

theorem setReg16_sp_of_ne (s : State) {r : Reg16} (hr : r ≠ .sp) (v : Word) : (s.setReg16 r v).sp = s.sp := by
  cases r with
  | sp => exact absurd rfl hr
  | _ => rfl

/-- Each flag is its bit of the word written to `AF` (R25, R147). -/
theorem getFlag_setPair_af (s : State) (v : Word) (fl : Flag) :
    (s.setPair .af v).getFlag fl = v.getLsbD (flagBit fl) := by
  have hF : (s.setPair .af v).readF = loByte v &&& 0xF0#8 := readF_writeF (s.setReg .a (hiByte v)) (loByte v)
  rw [getFlag_eq_bit, hF, BitVec.getLsbD_and, loByte, BitVec.getLsbD_extractLsb']
  cases fl <;> simp [flagBit]

/-! ### `SpOffset` (R193) -/

/-- Both flag rules give one result: the signed sum modulo 2^16. -/
theorem spOffset_res (rule : SpOffsetFlags) (fz : Bool) (sp : Word) (e : Byte) :
    (spOffset rule fz sp e).res = BitVec.ofInt 16 (sp.toNat + e.toInt) := by
  have hsum : BitVec.ofInt 16 (sp.toNat + e.toInt) = sp + sext16 e := by
    rw [BitVec.ofInt_add, BitVec.ofInt_natCast, BitVec.ofNat_toNat, BitVec.setWidth_eq]
    rfl
  rw [hsum]
  cases rule with
  | doc16Bit => exact (BitVec.add_def sp (sext16 e)).symm
  | lr35902Bits8 => rfl

theorem spOffsetOutcome_setFlagsFrom (s u : State) (e : Byte) :
    SpOffsetOutcome s (u.setFlagsFrom (spOffset s.config.spOffsetFlags (s.getFlag .z) s.sp e)) e := by
  cases hrule : s.config.spOffsetFlags <;> simp [SpOffsetOutcome, hrule, spOffset, add16]

/-- `LD HL,SP+e` leaves the sum in `HL`: the flags are written after it (R143). -/
theorem hl_ldHlSpOffset (e : Byte) (s : State) :
    hl (ldHlSpOffset e s) = BitVec.ofInt 16 (s.sp.toNat + e.toInt) := by
  calc hl (ldHlSpOffset e s)
      = hl ((s.advance 2).setPair .hl (spOffset s.config.spOffsetFlags (s.getFlag .z) s.sp e).res) :=
        (onlyChanges_setFlagsFrom _ _).hl_eq (by simp) (by simp)
    _ = (spOffset s.config.spOffsetFlags (s.getFlag .z) s.sp e).res := hl_setPair_hl _ _
    _ = BitVec.ofInt 16 (s.sp.toNat + e.toInt) := spOffset_res _ _ s.sp e

/-! ### The encodings of the families -/

theorem encode_ldReg16Imm (r : Reg16) (nn : Word) :
    encode (Instr.ldReg16Imm r nn) = [BitVec.ofNat 8 (0x01 + 16 * r.code), loByte nn, hiByte nn] := by
  cases r <;> rfl

theorem encode_push (p : Pair) : encode (Instr.push p) = [BitVec.ofNat 8 (0xC5 + 16 * p.code)] := by cases p <;> rfl

theorem encode_pop (p : Pair) : encode (Instr.pop p) = [BitVec.ofNat 8 (0xC1 + 16 * p.code)] := by cases p <;> rfl

/-! ### The statements -/

/-- Settles O35: the register reads as it was written, and the frame of the write is the register. -/
theorem loadImmediate16AndCopyHl : Obligations.LoadImmediate16AndCopyHl := fun s =>
  ⟨fun r nn => ⟨encode_ldReg16Imm r nn, _, exec_ldReg16Imm r nn s, getReg16_setReg16 _ r nn, setReg16_pc _ r nn,
    fun hr => setReg16_sp_of_ne _ hr nn, (onlyChanges_advance s 3).trans (onlyChanges_setReg16 _ r nn)⟩,
    rfl, _, rfl, rfl, rfl, (onlyChanges_advance s 1).trans (onlyChanges_setSp _ _)⟩

/-- Settles O36: it is a word store of `SP`. -/
theorem storeSpAtAddress : Obligations.StoreSpAtAddress := fun s nn =>
  ⟨rfl, _, rfl, ⟨stored_low_memWrite16 (advance_mem s 3) (advance_config s 3) nn s.sp,
    stored_high_memWrite16 (advance_mem s 3) (advance_config s 3) nn s.sp⟩, memWrite16_pc _ nn s.sp,
    memWrite16_sp _ nn s.sp, (onlyChanges_advance s 3).trans (onlyChanges_memWrite16 _ nn s.sp)⟩

/-- Settles O37: both forms write the result of `SpOffset`, then its flags. -/
theorem spPlusDisplacement : Obligations.SpPlusDisplacement := by
  intro s e
  refine ⟨⟨rfl, _, rfl, hl_ldHlSpOffset e s, ?_, ?_, spOffsetOutcome_setFlagsFrom s _ e, ?_⟩,
    rfl, _, rfl, spOffset_res _ _ s.sp e, setFlagsFrom_pc _ _, spOffsetOutcome_setFlagsFrom s _ e, ?_⟩
  · exact (setFlagsFrom_sp _ _).trans (setPair_sp _ .hl _)
  · exact (setFlagsFrom_pc _ _).trans (setPair_pc _ .hl _)
  · exact ((onlyChanges_advance s 2).trans (onlyChanges_setPair _ .hl _)).trans (onlyChanges_setFlagsFrom _ _)
  · exact ((onlyChanges_advance s 2).trans (onlyChanges_setSp _ _)).trans (onlyChanges_setFlagsFrom _ _)

/-- Settles O38: it is a push of the pair, and the low byte of `AF` is a read of `F`. -/
theorem pushStoresThePairBelowSp : Obligations.PushStoresThePairBelowSp := by
  intro p s
  refine ⟨encode_push p, ?_, _, exec_push p s, stored_low_push16 (advance_mem s 1) (advance_config s 1) rfl _,
    stored_high_push16 (advance_mem s 1) (advance_config s 1) rfl _, rfl, push16_pc _ _,
    (onlyChanges_advance s 1).trans (onlyChanges_push16 _ _)⟩
  rintro rfl
  exact (congrArg (· &&& 0x0F#8) (loByte_joinBytes s.a s.readF)).trans (readF_low s)

/-- Settles O39: it is a write of the pair with the word popped. -/
theorem popLoadsThePairFromSp : Obligations.PopLoadsThePairFromSp := by
  intro p s
  refine ⟨encode_pop p, _, exec_pop p s, getPair_setPair _ p (wordAt s s.sp), ?_, setPair_sp _ p _, setPair_pc _ p _,
    ((onlyChanges_advance s 1).trans (onlyChanges_setSp _ _)).trans (onlyChanges_setPair _ p _)⟩
  rintro rfl
  exact ⟨getFlag_setPair_af _ _ .z, getFlag_setPair_af _ _ .n, getFlag_setPair_af _ _ .h, getFlag_setPair_af _ _ .c⟩

end Sys2Proof.Machine
end

section
/-! SUPPORT. The family 42_alu8.md of the statements: what every accumulator operation leaves in `A`, the flags and the
rest, in the spec's integer arithmetic, and what `INC` and `DEC` make of their operand. -/

namespace Sys2Proof.Machine

/-! ### The accumulator operations -/

@[simp] theorem aluWith_pc (op : AluOp) (len : Nat) (v : Byte) (s : State) :
    (aluWith op len v s).pc = s.pc + BitVec.ofNat 16 len := by
  cases op <;> rfl

@[simp] theorem aluWith_sp (op : AluOp) (len : Nat) (v : Byte) (s : State) : (aluWith op len v s).sp = s.sp := by
  cases op <;> rfl

/-- The flags are those of the result, for `CP` as for the others (R163–R170). -/
@[simp] theorem getFlag_aluWith (op : AluOp) (len : Nat) (v : Byte) (s : State) (fl : Flag) :
    (aluWith op len v s).getFlag fl = (s.setFlagsFrom (alu8 op s.a v (s.getFlag .c))).getFlag fl := by
  rw [getFlag_setFlagsFrom]
  cases op <;> exact getFlag_setFlagsFrom (s.advance len) _ fl

/-- Every operation but `CP` writes its flags, then its result to `A` (R163–R169). -/
theorem aluWith_of_ne_cp {op : AluOp} (hop : op ≠ .cp) (len : Nat) (v : Byte) (s : State) :
    aluWith op len v s =
      ((s.advance len).setFlagsFrom (alu8 op s.a v (s.getFlag .c))).setReg .a (alu8 op s.a v (s.getFlag .c)).res := by
  cases op with
  | cp => exact absurd rfl hop
  | _ => rfl

theorem aluWith_a_of_ne_cp {op : AluOp} (hop : op ≠ .cp) (len : Nat) (v : Byte) (s : State) :
    (aluWith op len v s).a = (alu8 op s.a v (s.getFlag .c)).res := by
  rw [aluWith_of_ne_cp hop]
  rfl

theorem onlyChanges_aluWith_of_ne_cp {op : AluOp} (hop : op ≠ .cp) (len : Nat) (v : Byte) (s : State) :
    OnlyChanges s (aluWith op len v s) [.a] [.z, .n, .h, .c] [] := by
  rw [aluWith_of_ne_cp hop]
  exact ((onlyChanges_advance s len).trans (onlyChanges_setFlagsFrom _ _)).trans (onlyChanges_setReg _ .a _)

theorem onlyChanges_aluWith_cp (len : Nat) (v : Byte) (s : State) :
    OnlyChanges s (aluWith .cp len v s) [] [.z, .n, .h, .c] [] :=
  (onlyChanges_advance s len).trans (onlyChanges_setFlagsFrom _ _)

/-! ### The operand forms -/

theorem encode_alu (op : AluOp) (o : Operand8) :
    encode (Instr.alu op o) = [BitVec.ofNat 8 (0x80 + 8 * op.code + o.code)] := by
  cases o with
  | reg r => cases op <;> cases r <;> rfl
  | atHL => cases op <;> rfl

theorem encode_aluImm (op : AluOp) (n : Byte) :
    encode (Instr.aluImm op n) = [BitVec.ofNat 8 (0xC6 + 8 * op.code), n] := by
  cases op <;> rfl

/-- What an operation brings about for every value, its form with a register or `(HL)` brings about for the operand's
value, and its immediate form for the immediate (R90, R94, R162). -/
theorem alu_forms (op : AluOp) {s : State} (Post : State → Byte → Prop)
    (hpost : ∀ len v, Post (aluWith op len v s) v) :
    (∀ o : Operand8, encode (Instr.alu op o) = [BitVec.ofNat 8 (0x80 + 8 * op.code + o.code)] ∧
      ∃ t, exec (Instr.alu op o) s = .next t ∧ t.pc = s.pc + 1 ∧ Post t (o.value s)) ∧
    (∀ n : Byte, encode (Instr.aluImm op n) = [BitVec.ofNat 8 (0xC6 + 8 * op.code), n] ∧
      ∃ t, exec (Instr.aluImm op n) s = .next t ∧ t.pc = s.pc + 2 ∧ Post t n) := by
  refine ⟨fun o => ⟨encode_alu op o, _, exec_alu op o s, aluWith_pc op 1 _ s, ?_⟩,
    fun n => ⟨encode_aluImm op n, _, exec_aluImm op n s, aluWith_pc op 2 n s, hpost 2 n⟩⟩
  rw [← readOperand_eq]
  exact hpost 1 _

/-! ### The outcomes -/

/-- The outcome of an operation whose result is that of `Add8` (R160). -/
theorem addOutcome_aluWith (op : AluOp) (hop : op ≠ .cp) {s : State} {v : Byte} {cin : Bool}
    (halu : alu8 op s.a v (s.getFlag .c) = add8 s.a v cin) (len : Nat) :
    AddOutcome s (aluWith op len v s) v cin.toNat := by
  refine ⟨?_, ?_, ?_, ?_, ?_, aluWith_sp op len v s, onlyChanges_aluWith_of_ne_cp hop len v s⟩
  · rw [aluWith_a_of_ne_cp hop, halu]
    exact BitVec.toNat_ofNat _ _
  all_goals simp [halu, add8]

/-- The result of `Sub8` is the difference modulo 256 (R161). -/
theorem sub8_res_toNat (a b : Byte) (cin : Bool) :
    ((sub8 a b cin).res.toNat : Int) = ((a.toNat : Int) - b.toNat - cin.toNat) % 256 := by
  simp only [sub8, BitVec.toNat_ofInt]
  omega

theorem sub8_z_iff (a b : Byte) (cin : Bool) :
    (sub8 a b cin).z = true ↔ ((a.toNat : Int) - b.toNat - cin.toNat) % 256 = 0 := by
  rw [← sub8_res_toNat, Int.natCast_eq_zero, ← BitVec.toNat_zero, BitVec.toNat_inj]
  exact decide_eq_true_iff

/-- The flags of an operation whose result is that of `Sub8` (R161). -/
theorem subFlags_aluWith {op : AluOp} {s : State} {v : Byte} {cin : Bool}
    (halu : alu8 op s.a v (s.getFlag .c) = sub8 s.a v cin) (len : Nat) :
    SubFlags s (aluWith op len v s) v cin.toNat := by
  refine ⟨?_, ?_, ?_, ?_⟩
  · simp [halu, sub8_z_iff]
  all_goals simp [halu, sub8]

theorem subOutcome_aluWith (op : AluOp) (hop : op ≠ .cp) {s : State} {v : Byte} {cin : Bool}
    (halu : alu8 op s.a v (s.getFlag .c) = sub8 s.a v cin) (len : Nat) :
    SubOutcome s (aluWith op len v s) v cin.toNat := by
  refine ⟨?_, subFlags_aluWith halu len, aluWith_sp op len v s, onlyChanges_aluWith_of_ne_cp hop len v s⟩
  rw [aluWith_a_of_ne_cp hop, halu, sub8_res_toNat]

theorem cpOutcome_aluWith (s : State) (len : Nat) (v : Byte) : CpOutcome s (aluWith .cp len v s) v :=
  ⟨subFlags_aluWith (cin := false) rfl len, aluWith_sp .cp len v s, onlyChanges_aluWith_cp len v s⟩

/-- The outcome of an operation that sets `Z` from its result, `H` to `h`, and clears `N` and `C` (R167–R169). -/
theorem logicOutcome_aluWith (op : AluOp) (hop : op ≠ .cp) {s : State} {v res : Byte} {h : Bool}
    (halu : alu8 op s.a v (s.getFlag .c) = { res := res, z := decide (res = 0#8), n := false, h := h, c := false })
    (len : Nat) : LogicOutcome s (aluWith op len v s) res h := by
  refine ⟨?_, ?_, ?_, ?_, ?_, aluWith_sp op len v s, onlyChanges_aluWith_of_ne_cp hop len v s⟩
  · rw [aluWith_a_of_ne_cp hop, halu]
  all_goals simp [halu]

/-! ### `INC` and `DEC` (R171–R174) -/

/-- A write of the operand by an instruction of `n` bytes changes the operand alone (R90, R94). -/
theorem onlyChanges_writeOperand (s : State) (o : Operand8) (n : Nat) (v : Byte) :
    OnlyChanges s ((s.advance n).writeOperand o v) o.regs [] (o.addrs s) := by
  cases o with
  | reg r => exact (onlyChanges_advance s n).trans (onlyChanges_setReg _ r v)
  | atHL => exact (onlyChanges_advance s n).trans (onlyChanges_memWrite _ (hl s) v)

theorem onlyChanges_setFlagsZNH (s : State) (z n h : Bool) :
    OnlyChanges s (s.setFlagsZNH z n h) [] [.z, .n, .h] [] := by
  refine ⟨fun q _ => getReg_setFlagsZNH s z n h q, fun fl hfl => ?_, fun x _ => memRead_setFlagsZNH s z n h x, ?_, ?_⟩
  · cases fl <;> simp at hfl ⊢
  · simp [SameMode]
  · simp [SameEnable]

theorem Operand8.Wrote.setFlagsZNH {o : Operand8} {s t : State} {v : Byte} (hw : o.Wrote s t v) (z n h : Bool) :
    o.Wrote s (t.setFlagsZNH z n h) v := by
  cases o with
  | reg r => exact (getReg_setFlagsZNH t z n h r).trans hw
  | atHL => simpa [Operand8.Wrote, Stored] using hw

/-- The operand set to `v` and the flags Z, N, H written by an instruction of one byte. -/
theorem writeOperand_setFlagsZNH_outcome {s t : State} {o : Operand8} {v : Byte} {z n h : Bool}
    (ht : t = ((s.advance 1).writeOperand o v).setFlagsZNH z n h) :
    o.Wrote s t v ∧ t.getFlag .z = z ∧ t.getFlag .n = n ∧ t.getFlag .h = h ∧ t.pc = s.pc + 1 ∧ t.sp = s.sp ∧
      OnlyChanges s t o.regs [.z, .n, .h] (o.addrs s) := by
  subst ht
  refine ⟨(wrote_writeOperand s o 1 v).setFlagsZNH z n h, by simp, by simp, by simp, ?_, by simp, ?_⟩
  · rw [setFlagsZNH_pc, writeOperand_pc]
    rfl
  · simpa only [List.nil_append, List.append_nil] using
      (onlyChanges_writeOperand s o 1 v).trans (onlyChanges_setFlagsZNH _ z n h)

/-- One more (R171, R172): Z where the byte wraps, H where its low nibble does. -/
theorem inc8_eq (o : Operand8) (s : State) :
    inc8 o s = ((s.advance 1).writeOperand o (BitVec.ofNat 8 ((o.value s).toNat + 1))).setFlagsZNH
      (decide ((o.value s).toNat = 0xFF)) false (decide ((o.value s).toNat % 16 = 0xF)) := by
  have hlt := (o.value s).isLt
  have hz : (add8 (o.value s) 1#8 false).z = decide ((o.value s).toNat = 0xFF) :=
    decide_eq_decide.mpr (by simp only [BitVec.reduceToNat, Bool.toNat_false]; omega)
  have hh : (add8 (o.value s) 1#8 false).h = decide ((o.value s).toNat % 16 = 0xF) :=
    decide_eq_decide.mpr (by simp only [BitVec.reduceToNat, Bool.toNat_false]; omega)
  rw [← hz, ← hh, ← readOperand_eq]
  rfl

/-- One less (R173, R174): Z where nothing is left, H where the low nibble wraps. -/
theorem dec8_eq (o : Operand8) (s : State) :
    dec8 o s = ((s.advance 1).writeOperand o (BitVec.ofNat 8 ((o.value s).toNat + 255))).setFlagsZNH
      (decide ((o.value s).toNat = 1)) true (decide ((o.value s).toNat % 16 = 0)) := by
  have hlt := (o.value s).isLt
  have hres : (sub8 (o.value s) 1#8 false).res = BitVec.ofNat 8 ((o.value s).toNat + 255) := by
    apply BitVec.eq_of_toNat_eq
    have hsub := sub8_res_toNat (o.value s) 1#8 false
    simp only [BitVec.reduceToNat, Bool.toNat_false] at hsub
    rw [BitVec.toNat_ofNat]
    omega
  have hz : (sub8 (o.value s) 1#8 false).z = decide ((o.value s).toNat = 1) := by
    rw [Bool.eq_iff_iff, sub8_z_iff, decide_eq_true_iff]
    simp only [BitVec.reduceToNat, Bool.toNat_false]
    omega
  have hh : (sub8 (o.value s) 1#8 false).h = decide ((o.value s).toNat % 16 = 0) :=
    decide_eq_decide.mpr (by simp only [BitVec.reduceToNat, Bool.toNat_false]; omega)
  rw [← hz, ← hh, ← hres, ← readOperand_eq]
  rfl

theorem encode_inc8 (o : Operand8) : encode (Instr.inc8 o) = [BitVec.ofNat 8 (0x04 + 8 * o.code)] := by
  cases o with
  | reg r => cases r <;> rfl
  | atHL => rfl

theorem encode_dec8 (o : Operand8) : encode (Instr.dec8 o) = [BitVec.ofNat 8 (0x05 + 8 * o.code)] := by
  cases o with
  | reg r => cases r <;> rfl
  | atHL => rfl

/-! ### The statements -/

/-- Settles O41: both operations are `Add8`, `ADD` with carry-in 0 and `ADC` with `FC`. -/
theorem addAndAddWithCarry : Obligations.AddAndAddWithCarry := by
  intro s
  obtain ⟨hadd, haddImm⟩ := alu_forms .add (AddOutcome s · · 0) fun len _ =>
    addOutcome_aluWith .add (cin := false) nofun rfl len
  obtain ⟨hadc, hadcImm⟩ := alu_forms .adc (AddOutcome s · · (s.getFlag .c).toNat) fun len _ =>
    addOutcome_aluWith .adc nofun rfl len
  exact ⟨hadd, haddImm, hadc, hadcImm⟩

/-- Settles O42: all three are `Sub8`, `SBC` with borrow-in `FC` and the others with 0; `CP` writes only the flags. -/
theorem subtractAndCompare : Obligations.SubtractAndCompare := by
  intro s
  obtain ⟨hsub, hsubImm⟩ := alu_forms .sub (SubOutcome s · · 0) fun len _ =>
    subOutcome_aluWith .sub (cin := false) nofun rfl len
  obtain ⟨hsbc, hsbcImm⟩ := alu_forms .sbc (SubOutcome s · · (s.getFlag .c).toNat) fun len _ =>
    subOutcome_aluWith .sbc nofun rfl len
  obtain ⟨hcp, hcpImm⟩ := alu_forms .cp (CpOutcome s) (cpOutcome_aluWith s)
  exact ⟨hsub, hsubImm, hsbc, hsbcImm, hcp, hcpImm⟩

/-- Settles O43: the three results have one shape, `H` apart. -/
theorem bitwiseLogic : Obligations.BitwiseLogic := by
  intro s
  obtain ⟨hand, handImm⟩ := alu_forms .and (fun t v => LogicOutcome s t (s.a &&& v) true) fun len _ =>
    logicOutcome_aluWith .and nofun rfl len
  obtain ⟨hxor, hxorImm⟩ := alu_forms .xor (fun t v => LogicOutcome s t (s.a ^^^ v) false) fun len _ =>
    logicOutcome_aluWith .xor nofun rfl len
  obtain ⟨hor, horImm⟩ := alu_forms .or (fun t v => LogicOutcome s t (s.a ||| v) false) fun len _ =>
    logicOutcome_aluWith .or nofun rfl len
  exact ⟨hand, handImm, hxor, hxorImm, hor, horImm⟩

/-- Settles O44: both set the operand and the flags Z, N, H. -/
theorem incrementAndDecrement8 : Obligations.IncrementAndDecrement8 := by
  intro s o
  obtain ⟨hiWrote, hiZ, hiN, hiH, hiRest⟩ := writeOperand_setFlagsZNH_outcome (inc8_eq o s)
  obtain ⟨hdWrote, hdZ, hdN, hdH, hdRest⟩ := writeOperand_setFlagsZNH_outcome (dec8_eq o s)
  exact ⟨⟨encode_inc8 o, _, exec_inc8 o s, hiWrote, hiZ ▸ decide_eq_true_iff, hiN, hiH ▸ decide_eq_true_iff, hiRest⟩,
    encode_dec8 o, _, exec_dec8 o s, hdWrote, hdZ ▸ decide_eq_true_iff, hdN, hdH ▸ decide_eq_true_iff, hdRest⟩

end Sys2Proof.Machine
end

section
/-! SUPPORT. The family 43_alu16.md of the statements: the 16-bit sum with its flags, and the 16-bit increment and
decrement. -/

namespace Sys2Proof.Machine

/-! ### Frames -/

theorem onlyChanges_setFlagsNHC (s : State) (n h c : Bool) :
    OnlyChanges s (s.setFlagsNHC n h c) [] [.n, .h, .c] [] := by
  refine ⟨fun q _ => getReg_setFlagsNHC s n h c q, fun fl hfl => ?_, fun x _ => memRead_setFlagsNHC s n h c x, ?_, ?_⟩
  · cases fl <;> simp at hfl ⊢
  · simp [SameMode]
  · simp [SameEnable]

/-! ### The encodings of the families -/

theorem encode_addHl (r : Reg16) : encode (Instr.addHl r) = [BitVec.ofNat 8 (0x09 + 16 * r.code)] := by cases r <;> rfl

theorem encode_inc16 (r : Reg16) : encode (Instr.inc16 r) = [BitVec.ofNat 8 (0x03 + 16 * r.code)] := by cases r <;> rfl

theorem encode_dec16 (r : Reg16) : encode (Instr.dec16 r) = [BitVec.ofNat 8 (0x0B + 16 * r.code)] := by cases r <;> rfl

/-! ### `ADD HL,rr` (R190) -/

/-- The flags N, H and C of `ADD HL,rr` are those of the 16-bit sum, and Z is as before. -/
theorem getFlag_addHl (r : Reg16) (s : State) (fl : Flag) :
    (addHl r s).getFlag fl = match fl with
      | .z => s.getFlag .z
      | .n => false
      | .h => decide (0x0FFF < (hl s).toNat % 0x1000 + (s.getReg16 r).toNat % 0x1000)
      | .c => decide (0xFFFF < (hl s).toNat + (s.getReg16 r).toNat) := by
  rw [addHl, getFlag_setFlagsNHC]
  cases fl <;> rfl

theorem onlyChanges_addHl (r : Reg16) (s : State) : OnlyChanges s (addHl r s) [.h, .l] [.n, .h, .c] [] :=
  ((onlyChanges_advance s 1).trans (onlyChanges_setPair _ .hl _)).trans (onlyChanges_setFlagsNHC _ _ _ _)

/-- The sum is left in `HL`: the flags are written after it. -/
theorem hl_addHl (r : Reg16) (s : State) : hl (addHl r s) = BitVec.ofNat 16 ((hl s).toNat + (s.getReg16 r).toNat) :=
  ((onlyChanges_setFlagsNHC _ _ _ _).hl_eq (by simp) (by simp)).trans (hl_setPair_hl _ _)

/-! ### `INC rr` and `DEC rr` (R191, R192) -/

/-- A 16-bit register set to `v` by an instruction of `n` bytes. -/
theorem setReg16_advance_outcome (s : State) (n : Nat) (r : Reg16) (v : Word) :
    ((s.advance n).setReg16 r v).getReg16 r = v ∧ ((s.advance n).setReg16 r v).pc = s.pc + BitVec.ofNat 16 n ∧
      (r ≠ .sp → ((s.advance n).setReg16 r v).sp = s.sp) ∧ OnlyChanges s ((s.advance n).setReg16 r v) r.regs [] [] :=
  ⟨getReg16_setReg16 _ r v, setReg16_pc _ r v, fun hr => setReg16_sp_of_ne _ hr v,
    (onlyChanges_advance s n).trans (onlyChanges_setReg16 _ r v)⟩

/-! ### The statements -/

/-- Settles O45: `HL` and the flags are those of the integer sum, and the frame is that of the two writes. -/
theorem addToHl : Obligations.AddToHl := by
  intro s r
  refine ⟨encode_addHl r, _, exec_addHl r s, ?_, getFlag_addHl r s .n, ?_, ?_, rfl, ?_, onlyChanges_addHl r s⟩
  · rw [hl_addHl]
    exact BitVec.toNat_ofNat _ 16
  · simp [getFlag_addHl]
  · simp [getFlag_addHl]
  · exact (setFlagsNHC_sp _ _ _ _).trans (setPair_sp _ .hl _)

/-- Settles O46: both write the register alone, with the sum or the difference modulo 2^16. -/
theorem incrementAndDecrement16 : Obligations.IncrementAndDecrement16 := by
  intro s r
  obtain ⟨hinc, hincRest⟩ := setReg16_advance_outcome s 1 r (s.getReg16 r + 1)
  obtain ⟨hdec, hdecRest⟩ := setReg16_advance_outcome s 1 r (s.getReg16 r - 1)
  refine ⟨⟨encode_inc16 r, _, exec_inc16 r s, ?_, hincRest⟩, encode_dec16 r, _, exec_dec16 r s, ?_, hdecRest⟩
  · rw [inc16, hinc, BitVec.toNat_add]
    rfl
  · rw [dec16, hdec, BitVec.toNat_sub, Nat.add_comm]
    rfl

end Sys2Proof.Machine
end

section
/-! SUPPORT. The family 44_misc_control.md of the statements: what `NOP`, `HALT`, `STOP`, `DI`, `EI`, `CPL`, `SCF` and `CCF`
make of the state, the commit of a delayed `EI`, and `DAA` in integer arithmetic. -/

namespace Sys2Proof.Machine

/-! ### `IME` and `IME_PENDING` (R32, R85) -/

/-- Only `DI`, `EI` and `RETI` make an update of `IME` or `IME_PENDING` (R32). -/
theorem Edits.sameEnable {i : Instr} {s t : State} (h : Edits i s t) (hi : ¬ (i = .di ∨ i = .ei ∨ i = .reti)) :
    SameEnable s t := by
  induction h with
  | refl => exact ⟨rfl, rfl⟩
  | setIme _ _ h => exact absurd h hi
  | _ => simpa [SameEnable]

theorem Effect.sameEnable {i : Instr} {s t : State} (h : Effect i s t) (hi : ¬ (i = .di ∨ i = .ei ∨ i = .reti)) :
    SameEnable s t := by
  cases h with
  | decodeError | halt | stop => exact ⟨rfl, rfl⟩
  | edits h => exact h.sameEnable hi

/-- All an instruction can leave in `IME` and `IME_PENDING`: what `DI` (R203), `EI` (R204) and `RETI` (R266) write, or what
was there. -/
theorem exec_enable_cases {i : Instr} {s t : State} (h : exec i s = .next t) :
    (i = .di ∧ t.ime = false ∧ t.imePending = false) ∨
    (i = .ei ∧ t.ime = s.ime ∧ t.imePending = true) ∨
    (i = .reti ∧ t.ime = true ∧ t.imePending = false) ∨
    ((i ≠ .di ∧ i ≠ .ei ∧ i ≠ .reti) ∧ t.ime = s.ime ∧ t.imePending = s.imePending) := by
  by_cases hi : i = .di ∨ i = .ei ∨ i = .reti
  · obtain rfl | rfl | rfl := hi
    · cases h; exact .inl ⟨rfl, rfl, rfl⟩
    · cases h; exact .inr (.inl ⟨rfl, rfl, rfl⟩)
    · cases h; exact .inr (.inr (.inl ⟨rfl, rfl, rfl⟩))
  · exact .inr (.inr (.inr ⟨by simpa using hi, (exec_effect h).sameEnable hi⟩))

theorem commitDelayedEi_ime {s : State} (hm : s.mode ≠ .faulted) (pend : Bool) :
    (s.commitDelayedEi pend).ime = (s.ime || pend && s.imePending) := by
  cases hp : pend && s.imePending <;> simp [State.commitDelayedEi, hp, hm]

/-- A commit leaves nothing pending that was pending before the step (R85). -/
theorem commitDelayedEi_imePending {s : State} (hm : s.mode ≠ .faulted) (pend : Bool) :
    (s.commitDelayedEi pend).imePending = (s.imePending && !pend) := by
  cases hs : s.imePending <;> cases pend <;> simp [State.commitDelayedEi, hs, hm]

/-! ### `STOP` (R202) -/

theorem stopCore_eq (s : State) :
    stopCore s = (s.advance (if s.config.stopLength = .two then 2 else 1)).enterHalted .stop := by
  cases h : s.config.stopLength <;> simp [stopCore, h]

/-! ### The flag instructions (R206–R208) -/

theorem onlyChanges_writeFlag (s : State) (fl : Flag) (v : Bool) : OnlyChanges s (s.writeFlag fl v) [] [fl] [] := by
  refine ⟨fun q _ => getReg_writeFlag s fl v q, fun q hq => ?_, fun x _ => memRead_writeFlag s fl v x, ?_, ?_⟩
  · rw [getFlag_writeFlag, if_neg (Ne.symm (List.ne_of_not_mem_cons hq))]
  · simp [SameMode]
  · simp [SameEnable]

theorem onlyChanges_complementA (s : State) : OnlyChanges s (complementA s) [.a] [.n, .h] [] :=
  (((onlyChanges_advance s 1).trans (onlyChanges_setReg _ .a _)).trans (onlyChanges_writeFlag _ .n _)).trans
    (onlyChanges_writeFlag _ .h _)

/-- The flags N, H and C written by an instruction of one byte (R207, R208). -/
theorem setFlagsNHC_advance_outcome (s : State) (n h c : Bool) :
    ((s.advance 1).setFlagsNHC n h c).getFlag .n = n ∧ ((s.advance 1).setFlagsNHC n h c).getFlag .h = h ∧
      ((s.advance 1).setFlagsNHC n h c).getFlag .c = c ∧ ((s.advance 1).setFlagsNHC n h c).pc = s.pc + 1 ∧
      ((s.advance 1).setFlagsNHC n h c).sp = s.sp ∧
      OnlyChanges s ((s.advance 1).setFlagsNHC n h c) [] [.n, .h, .c] [] :=
  ⟨by simp, by simp, by simp, rfl, rfl, (onlyChanges_advance s 1).trans (onlyChanges_setFlagsNHC _ n h c)⟩

/-! ### `DAA` (R205) -/

/-- After an addition: `0x60` leaves the low nibble as it is, so the second test may be made on `A` before it. -/
theorem daaAdjust_of_add (a : Byte) (h c : Bool) :
    (daaAdjust a false h c).1.toNat = (a.toNat + (if c = true ∨ 0x99 < a.toNat then 0x60 else 0) +
      (if h = true ∨ 9 < a.toNat % 16 then 0x06 else 0)) % 256 ∧
    ((daaAdjust a false h c).2 = true ↔ (c = true ∨ 0x99 < a.toNat)) := by
  refine ⟨?_, by simp [daaAdjust]⟩
  have hnibble (high : Prop) [Decidable high] :
      (if high then (a.toNat : Int) + 0x60 else a.toNat) % 16 > 9 ↔ 9 < a.toNat % 16 := by
    split_ifs <;> omega
  have hhigh : (a.toNat : Int) > 0x99 ↔ 0x99 < a.toNat := by omega
  simp only [daaAdjust, Bool.false_eq_true, if_false, hnibble, hhigh, Bool.or_eq_true, decide_eq_true_eq, BitVec.toNat_ofInt]
  split_ifs <;> omega

/-- After a subtraction the flags alone say what is taken away. -/
theorem daaAdjust_of_sub (a : Byte) (h c : Bool) :
    ((daaAdjust a true h c).1.toNat : Int) = ((a.toNat : Int) - (if c = true then 0x60 else 0) -
      (if h = true then 0x06 else 0)) % 256 ∧
    (daaAdjust a true h c).2 = c := by
  refine ⟨?_, rfl⟩
  simp only [daaAdjust, if_true, BitVec.toNat_ofInt]
  split_ifs <;> omega

theorem decimalAdjust_a (s : State) :
    (decimalAdjust s).a = (daaAdjust s.a (s.getFlag .n) (s.getFlag .h) (s.getFlag .c)).1 := by
  simp [decimalAdjust]

theorem getFlag_decimalAdjust (s : State) (fl : Flag) :
    (decimalAdjust s).getFlag fl = match fl with
      | .z => decide ((decimalAdjust s).a = 0#8)
      | .n => s.getFlag .n
      | .h => false
      | .c => (daaAdjust s.a (s.getFlag .n) (s.getFlag .h) (s.getFlag .c)).2 := by
  cases fl <;> simp [decimalAdjust]

theorem onlyChanges_decimalAdjust (s : State) : OnlyChanges s (decimalAdjust s) [.a] [.z, .h, .c] [] :=
  ((((onlyChanges_advance s 1).trans (onlyChanges_setReg _ .a _)).trans (onlyChanges_writeFlag _ .z _)).trans
    (onlyChanges_writeFlag _ .h _)).trans (onlyChanges_writeFlag _ .c _)

/-- `DAA` after an addition, that is with `N` clear. -/
theorem decimalAdjust_of_add {s : State} (hn : s.getFlag .n = false) :
    (decimalAdjust s).a.toNat = (s.a.toNat + (if s.getFlag .c = true ∨ 0x99 < s.a.toNat then 0x60 else 0) +
      (if s.getFlag .h = true ∨ 9 < s.a.toNat % 16 then 0x06 else 0)) % 256 ∧
    ((decimalAdjust s).getFlag .c = true ↔ (s.getFlag .c = true ∨ 0x99 < s.a.toNat)) := by
  rw [decimalAdjust_a, getFlag_decimalAdjust, hn]
  exact daaAdjust_of_add _ _ _

/-- `DAA` after a subtraction, that is with `N` set. -/
theorem decimalAdjust_of_sub {s : State} (hn : s.getFlag .n = true) :
    ((decimalAdjust s).a.toNat : Int) = ((s.a.toNat : Int) - (if s.getFlag .c = true then 0x60 else 0) -
      (if s.getFlag .h = true then 0x06 else 0)) % 256 ∧
    (decimalAdjust s).getFlag .c = s.getFlag .c := by
  rw [decimalAdjust_a, getFlag_decimalAdjust, hn]
  exact daaAdjust_of_sub _ _ _

/-! ### BCD sums and differences -/

theorem bcd_toNat {x : Nat} (hx : x < 100) : (bcd x).toNat = 16 * (x / 10) + x % 10 := by
  rw [bcd, BitVec.toNat_ofNat]
  omega

/-- The sum of the BCD bytes with digits `p`, `q` and `r`, `u` passes `0x99` exactly where that of the numbers reaches
100. -/
theorem bcd_carry_iff {p q r u : Nat} (hp : p < 10) (hq : q < 10) (hr : r < 10) (hu : u < 10) :
    0xFF < 16 * p + q + (16 * r + u) ∨ 0x99 < (16 * p + q + (16 * r + u)) % 256 ↔ 100 ≤ 10 * p + q + (10 * r + u) := by
  omega

/-- `DAA` corrects each digit of a BCD sum that exceeds 9 or has carried. -/
theorem decimalAdjust_bcd_add {x y : Nat} {s t : State} (hx : x < 100) (hy : y < 100) (ha : s.a = bcd x)
    (hadd : AddOutcome s t (bcd y) 0) :
    (decimalAdjust t).a = bcd ((x + y) % 100) ∧ ((decimalAdjust t).getFlag .c = true ↔ 100 ≤ x + y) := by
  obtain ⟨hsum, -, hn, hh, hc, -, -⟩ := hadd
  rw [ha, bcd_toNat hx, bcd_toNat hy] at hsum hh hc
  have hhigh : t.getFlag .c = true ∨ 0x99 < t.a.toNat ↔ 100 ≤ x + y := by
    rw [hc, hsum, Nat.add_zero, bcd_carry_iff (by omega) (by omega) (by omega) (by omega), Nat.div_add_mod, Nat.div_add_mod]
  have hlow : t.getFlag .h = true ∨ 9 < t.a.toNat % 16 ↔ 10 ≤ x % 10 + y % 10 := by rw [hh, hsum]; omega
  obtain ⟨hres, hcarry⟩ := decimalAdjust_of_add hn
  refine ⟨BitVec.eq_of_toNat_eq ?_, hcarry.trans hhigh⟩
  rw [bcd_toNat (Nat.mod_lt _ (by decide))]
  simp only [hhigh, hlow] at hres
  split_ifs at hres <;> omega

/-- `DAA` corrects each digit of a BCD difference that has borrowed. -/
theorem decimalAdjust_bcd_sub {x y : Nat} {s t : State} (hx : x < 100) (hy : y < 100) (ha : s.a = bcd x)
    (hsub : SubOutcome s t (bcd y) 0) :
    (decimalAdjust t).a = bcd ((x + 100 - y) % 100) ∧ ((decimalAdjust t).getFlag .c = true ↔ x < y) := by
  obtain ⟨hdiff, ⟨-, hn, hh, hc⟩, -, -⟩ := hsub
  rw [ha, bcd_toNat hx, bcd_toNat hy] at hdiff hh hc
  have hhigh : t.getFlag .c = true ↔ x < y := hc.trans (by omega)
  have hlow : t.getFlag .h = true ↔ x % 10 < y % 10 := hh.trans (by omega)
  obtain ⟨hres, hcarry⟩ := decimalAdjust_of_sub hn
  refine ⟨BitVec.eq_of_toNat_eq ?_, hcarry ▸ hhigh⟩
  rw [bcd_toNat (Nat.mod_lt _ (by decide))]
  simp only [hhigh, hlow] at hres
  split_ifs at hres <;> omega

/-! ### The statements -/

/-- Settles O12: the instruction leaves `IME_PENDING` as it was unless it is `DI`, `EI` or `RETI`, and the commit follows. -/
theorem delayedEiIsCommittedByTheNextInstruction : Obligations.DelayedEiIsCommittedByTheNextInstruction := by
  intro s t hm h ht
  obtain ⟨hn, -⟩ | ⟨-, -, u, hu, rfl⟩ := step_cases h
  · exact absurd hm hn
  rw [commitDelayedEi_mode] at ht
  rw [commitDelayedEi_ime ht, commitDelayedEi_imePending ht]
  obtain ⟨hi, hime, hpend⟩ | ⟨hi, hime, hpend⟩ | ⟨hi, hime, hpend⟩ | ⟨⟨hdi, hei, hreti⟩, hime, hpend⟩ :=
    exec_enable_cases hu
  · simp [hi, hime, hpend]
  · simp +contextual [hi, hime, hpend]
  · simp [hi, hime, hpend]
  · simp +contextual [hdi, hei, hreti, hime, hpend]

/-- Settles O50: the flags of the sum and of the difference tell `DAA` which digits to correct. -/
theorem decimalAdjustCorrectsBcdSums : Obligations.DecimalAdjustCorrectsBcdSums := fun _ _ s hx hy ha =>
  ⟨⟨_, _, exec_aluImm .add _ s, rfl,
      decimalAdjust_bcd_add hx hy ha (addOutcome_aluWith .add (cin := false) nofun rfl 2)⟩,
    _, _, exec_aluImm .sub _ s, rfl,
      decimalAdjust_bcd_sub hx hy ha (subOutcome_aluWith .sub (cin := false) nofun rfl 2)⟩

/-- Settles O47: `NOP` is the fetch alone, and the other two enter Halted after it. -/
theorem nopHaltAndStop : Obligations.NopHaltAndStop := by
  intro s
  refine ⟨⟨rfl, _, rfl, rfl, rfl, onlyChanges_advance s 1⟩, ⟨rfl, rfl⟩, fun x => ⟨?_, ?_⟩⟩
  · cases x <;> rfl
  · refine (congrArg Host.Outcome.next (stopCore_eq s)).trans ?_
    split <;> rfl

/-- Settles O48: each is the fetch and one write of `IME` and `IME_PENDING`. -/
theorem disableAndEnableInterrupts : Obligations.DisableAndEnableInterrupts :=
  fun _ => ⟨⟨rfl, rfl⟩, rfl, rfl⟩

/-- Settles O49, by the integer arithmetic of the adjustment and the frames of the writes. -/
theorem daaIsDecimalAdjust : Obligations.DecimalAdjust := fun s =>
  ⟨rfl, _, rfl, decimalAdjust_of_add, decimalAdjust_of_sub,
    (congrArg (· = true) (getFlag_decimalAdjust s .z)).to_iff.trans decide_eq_true_iff,
    getFlag_decimalAdjust s .h, rfl, rfl, onlyChanges_decimalAdjust s⟩

/-- Settles O51: each is the fetch and its writes of `A` and of the flags. -/
theorem complementAndCarryFlagInstructions : Obligations.ComplementAndCarryFlagInstructions := by
  intro s
  refine ⟨⟨rfl, _, rfl, ?_, ?_, ?_, rfl, rfl, onlyChanges_complementA s⟩,
    ⟨rfl, _, rfl, setFlagsNHC_advance_outcome s _ _ _⟩, rfl, _, rfl, setFlagsNHC_advance_outcome s _ _ _⟩
  all_goals simp [complementA]

end Sys2Proof.Machine
end

section
/-! SUPPORT. The family 45_rotate_shift.md of the statements: what `shift8` computes in integer arithmetic, and the one
outcome of a rotate or shift on `A` and on an operand. -/

namespace Sys2Proof.Machine

/-! ### `shift8` in integer arithmetic (R225–R232) -/

/-- A shifted byte with the vacated low bits filled in: the bits that stay, and those put in, do not overlap. -/
theorem toNat_shiftLeft_or {k : Nat} {v w : Byte} (hk : k ≤ 8) (hw : w.toNat < 2 ^ k) :
    (v <<< k ||| w).toNat = v.toNat % 2 ^ (8 - k) * 2 ^ k + w.toNat := by
  have hpow : 2 ^ 8 = 2 ^ (8 - k) * 2 ^ k := by rw [← Nat.pow_add, Nat.sub_add_cancel hk]
  rw [BitVec.toNat_or, BitVec.toNat_shiftLeft, Nat.shiftLeft_eq, hpow, Nat.mul_mod_mul_right, ← Nat.shiftLeft_eq,
    Nat.shiftLeft_add_eq_or_of_lt hw]

theorem toNat_shiftRight (v : Byte) (k : Nat) : (v >>> k).toNat = v.toNat / 2 ^ k := by
  rw [BitVec.toNat_ushiftRight, Nat.shiftRight_eq_div_pow]

theorem toNat_and_one (v : Byte) : (v &&& 1#8).toNat = v.toNat % 2 := by
  rw [BitVec.toNat_and]
  exact Nat.and_one_is_mod _

theorem toNat_ite_bit (b : Bool) : (if b then 1#8 else 0#8).toNat = b.toNat := by cases b <;> rfl

/-- Bit 7 kept in its place (R230). -/
theorem and_bit7_eq (v : Byte) : v &&& 0x80#8 = (v >>> 7) <<< 7 := by
  revert v
  decide

theorem toNat_bne_zero {b : Byte} (hb : b.toNat < 2) : (b != 0#8).toNat = b.toNat := by
  obtain h | h : b = 0#8 ∨ b = 1#8 := by bv_omega
  all_goals subst h; rfl

theorem shift8_res_toNat (op : ShiftOp) (v : Byte) (carry : Bool) :
    (shift8 op v carry).res.toNat = shiftResult op v.toNat carry.toNat := by
  have hv := v.isLt
  have hcarry := carry.toNat_lt
  cases op with
  | rlc =>
    change (v <<< 1 ||| v >>> 7).toNat = (2 * v.toNat + v.toNat / 128) % 256
    rw [toNat_shiftLeft_or (by omega) (by rw [toNat_shiftRight]; omega), toNat_shiftRight]
    omega
  | rrc =>
    change (v >>> 1 ||| (v &&& 1#8) <<< 7).toNat = v.toNat / 2 + 128 * (v.toNat % 2)
    rw [BitVec.or_comm, toNat_shiftLeft_or (by omega) (by rw [toNat_shiftRight]; omega), toNat_shiftRight, toNat_and_one]
    omega
  | rl =>
    change (v <<< 1 ||| if carry then 1#8 else 0#8).toNat = (2 * v.toNat + carry.toNat) % 256
    rw [toNat_shiftLeft_or (by omega) (by rw [toNat_ite_bit]; omega), toNat_ite_bit]
    omega
  | rr =>
    change (v >>> 1 ||| (if carry then 1#8 else 0#8) <<< 7).toNat = v.toNat / 2 + 128 * carry.toNat
    rw [BitVec.or_comm, toNat_shiftLeft_or (by omega) (by rw [toNat_shiftRight]; omega), toNat_shiftRight, toNat_ite_bit]
    omega
  | sla =>
    change (v <<< 1).toNat = 2 * v.toNat % 256
    rw [BitVec.toNat_shiftLeft, Nat.shiftLeft_eq, Nat.mul_comm]
  | sra =>
    change (v >>> 1 ||| v &&& 0x80#8).toNat = v.toNat / 2 + 128 * (v.toNat / 128)
    rw [and_bit7_eq, BitVec.or_comm, toNat_shiftLeft_or (by omega) (by rw [toNat_shiftRight]; omega), toNat_shiftRight,
      toNat_shiftRight]
    omega
  | swap =>
    change (v <<< 4 ||| v >>> 4).toNat = 16 * (v.toNat % 16) + v.toNat / 16
    rw [toNat_shiftLeft_or (by omega) (by rw [toNat_shiftRight]; omega), toNat_shiftRight]
    omega
  | srl => exact toNat_shiftRight v 1

theorem shift8_z (op : ShiftOp) (v : Byte) (carry : Bool) :
    (shift8 op v carry).z = decide ((shift8 op v carry).res = 0#8) := by
  cases op <;> rfl

theorem shift8_n (op : ShiftOp) (v : Byte) (carry : Bool) : (shift8 op v carry).n = false := by cases op <;> rfl

theorem shift8_h (op : ShiftOp) (v : Byte) (carry : Bool) : (shift8 op v carry).h = false := by cases op <;> rfl

/-- The bit shifted out is bit 7 of a shift to the left, bit 0 of one to the right, and none of `SWAP`. -/
theorem shift8_c_toNat (op : ShiftOp) (v : Byte) (carry : Bool) :
    (shift8 op v carry).c.toNat = shiftCarry op v.toNat := by
  have hv := v.isLt
  have htop : (v >>> 7 != 0#8).toNat = v.toNat / 128 :=
    (toNat_bne_zero (by rw [toNat_shiftRight]; omega)).trans (toNat_shiftRight v 7)
  have hlow : (v &&& 1#8 != 0#8).toNat = v.toNat % 2 :=
    (toNat_bne_zero (by rw [toNat_and_one]; omega)).trans (toNat_and_one v)
  cases op with
  | rlc | rl | sla => exact htop
  | rrc | rr | sra | srl => exact hlow
  | swap => rfl

theorem shift8_res (op : ShiftOp) (v : Byte) (carry : Bool) :
    (shift8 op v carry).res = BitVec.ofNat 8 (shiftResult op v.toNat carry.toNat) := by
  rw [← shift8_res_toNat, BitVec.ofNat_toNat, BitVec.setWidth_eq]

theorem shift8_z_iff (op : ShiftOp) (v : Byte) (carry : Bool) :
    (shift8 op v carry).z = true ↔ shiftResult op v.toNat carry.toNat = 0 := by
  rw [shift8_z, decide_eq_true_iff, ← shift8_res_toNat, ← BitVec.toNat_inj]
  rfl

/-! ### The outcome on an operand -/

/-- What was written to an operand stays where only flags are changed after it. -/
theorem Operand8.Wrote.of_onlyChanges {o : Operand8} {s t u : State} {v : Byte} {flags : List Flag}
    (hw : o.Wrote s t v) (h : OnlyChanges t u [] flags []) : o.Wrote s u v := by
  obtain ⟨hregs, -, hmem, -⟩ := h
  cases o with
  | reg r => exact (hregs r List.not_mem_nil).trans hw
  | atHL =>
    have hread := hmem (hl s) List.not_mem_nil
    obtain ⟨hrom, hram⟩ := hw
    exact ⟨fun hx => hread.trans (hrom hx), fun hx => hread.trans (hram hx)⟩

/-- The operand and the four flags written from one result by an instruction of `n` bytes. -/
theorem writeOperand_setFlagsFrom_outcome {s t : State} {n : Nat} {o : Operand8} {r : AluResult 8}
    (ht : t = ((s.advance n).writeOperand o r.res).setFlagsFrom r) :
    o.Wrote s t r.res ∧ t.getFlag .z = r.z ∧ t.getFlag .n = r.n ∧ t.getFlag .h = r.h ∧ t.getFlag .c = r.c ∧
      t.pc = s.pc + BitVec.ofNat 16 n ∧ t.sp = s.sp ∧ OnlyChanges s t o.regs [.z, .n, .h, .c] (o.addrs s) := by
  subst ht
  refine ⟨(wrote_writeOperand s o n r.res).of_onlyChanges (onlyChanges_setFlagsFrom _ r), by simp, by simp, by simp,
    by simp, by simp, by simp, ?_⟩
  simpa only [List.nil_append, List.append_nil] using
    (onlyChanges_writeOperand s o n r.res).trans (onlyChanges_setFlagsFrom _ r)

theorem shiftOperand_eq (op : ShiftOp) (o : Operand8) (s : State) :
    shiftOperand op o s = ((s.advance 2).writeOperand o (shift8 op (o.value s) (s.getFlag .c)).res).setFlagsFrom
      (shift8 op (o.value s) (s.getFlag .c)) := by
  rw [← readOperand_eq]
  rfl

theorem encode_shift (op : ShiftOp) (o : Operand8) :
    encode (Instr.shift op o) = [0xCB#8, BitVec.ofNat 8 (8 * op.code + o.code)] := by
  obtain ⟨henc, -⟩ := cbInstr_spec (BitVec.ofNat 8 (8 * op.code + o.code))
  rwa [cbInstr_shift] at henc

/-- An accumulator rotate (R220–R223) is that of the CB page on `A`, in one byte, with Z of the result made 0. -/
theorem rotateA_outcome (op : ShiftOp) (s : State) :
    (rotateA op s).a.toNat = shiftResult op s.a.toNat (s.getFlag .c).toNat ∧
      ((rotateA op s).getFlag .c).toNat = shiftCarry op s.a.toNat ∧
      (rotateA op s).getFlag .z = false ∧ (rotateA op s).getFlag .n = false ∧ (rotateA op s).getFlag .h = false ∧
      (rotateA op s).pc = s.pc + 1 ∧ (rotateA op s).sp = s.sp ∧
      OnlyChanges s (rotateA op s) [.a] [.z, .n, .h, .c] [] := by
  obtain ⟨hwrote, hz, hn, hh, hc, hrest⟩ := writeOperand_setFlagsFrom_outcome (s := s) (t := rotateA op s) (n := 1)
    (o := .reg .a) (r := { shift8 op s.a (s.getFlag .c) with z := false }) rfl
  exact ⟨(congrArg BitVec.toNat hwrote).trans (shift8_res_toNat op s.a _),
    (congrArg Bool.toNat hc).trans (shift8_c_toNat op s.a _), hz, hn.trans (shift8_n op s.a _),
    hh.trans (shift8_h op s.a _), hrest⟩

/-! ### The statements -/

/-- Settles O52: each is the rotate of `A` by its operation. -/
theorem accumulatorRotates : Obligations.AccumulatorRotates := by
  intro s
  simp only [List.forall_mem_cons]
  exact ⟨⟨rfl, _, rfl, rotateA_outcome .rlc s⟩, ⟨rfl, _, rfl, rotateA_outcome .rrc s⟩,
    ⟨rfl, _, rfl, rotateA_outcome .rl s⟩, ⟨rfl, _, rfl, rotateA_outcome .rr s⟩, nofun⟩

/-- Settles O53: the operand and the flags are written from the result of `shift8`. -/
theorem cbPageRotatesAndShifts : Obligations.CbPageRotatesAndShifts := by
  intro s op o
  obtain ⟨hwrote, hz, hn, hh, hc, hrest⟩ := writeOperand_setFlagsFrom_outcome (shiftOperand_eq op o s)
  rw [shift8_res] at hwrote
  exact ⟨encode_shift op o, _, exec_shift op o s, hwrote, hz ▸ shift8_z_iff op _ _, hn.trans (shift8_n op _ _),
    hh.trans (shift8_h op _ _), (congrArg Bool.toNat hc).trans (shift8_c_toNat op _ _), hrest⟩

end Sys2Proof.Machine
end

section
/-! SUPPORT. The family 46_bit.md of the statements: the bits of a byte with one of them tested, cleared or set, and the one
outcome of a write of the operand that no flag follows. -/

namespace Sys2Proof.Machine

/-! ### One bit of a byte -/

/-- The mask of bit `n` (R241, R242) has that bit alone. -/
theorem getLsbD_bitMask (n : Fin 8) (j : Nat) : (1#8 <<< n.val).getLsbD j = decide (n.val = j) :=
  (BitVec.getLsbD_twoPow n.val j).trans (by rw [decide_eq_true n.isLt, Bool.true_and])

theorem getLsbD_clearBit (n : Fin 8) (v : Byte) {j : Nat} (hj : j < 8) :
    (v &&& ~~~(1#8 <<< n.val)).getLsbD j = if j = n.val then false else v.getLsbD j := by
  rw [BitVec.getLsbD_and, BitVec.getLsbD_not, getLsbD_bitMask]
  split
  next h => simp [h]
  next h => simp [hj, Ne.symm h]

theorem getLsbD_setBit (n : Fin 8) (v : Byte) (j : Nat) :
    (v ||| 1#8 <<< n.val).getLsbD j = if j = n.val then true else v.getLsbD j := by
  rw [BitVec.getLsbD_or, getLsbD_bitMask]
  split
  next h => simp [h]
  next h => simp [Ne.symm h]

/-- A bit is 0 exactly when the quotient by its weight is even. -/
theorem getLsbD_eq_false_iff (v : Byte) (k : Nat) : v.getLsbD k = false ↔ v.toNat / 2 ^ k % 2 = 0 := by
  rw [← BitVec.testBit_toNat, Nat.testBit_eq_decide_div_mod_eq, decide_eq_false_iff_not]
  exact Nat.mod_two_ne_one

/-! ### The encoding and the outcome -/

/-- An instruction of the CB page is encoded as 0xCB and the byte that selects it (R96). -/
theorem encode_of_cbInstr {b : Byte} {i : Instr} (h : cbInstr b = i) : encode i = [0xCB#8, b] := by
  obtain ⟨henc, -⟩ := cbInstr_spec b
  rwa [h] at henc

/-- The operand set to `v` by an instruction of `n` bytes that writes no flag. -/
theorem writeOperand_outcome {s t : State} {n : Nat} {o : Operand8} {v : Byte} (ht : t = (s.advance n).writeOperand o v) :
    o.Wrote s t v ∧ t.pc = s.pc + BitVec.ofNat 16 n ∧ t.sp = s.sp ∧ OnlyChanges s t o.regs [] (o.addrs s) := by
  subst ht
  exact ⟨wrote_writeOperand s o n v, by simp, by simp, onlyChanges_writeOperand s o n v⟩

theorem testBit_eq (n : Fin 8) (o : Operand8) (s : State) :
    testBit n o s = (s.advance 2).setFlagsZNH (!(o.value s).getLsbD n.val) false true := by
  rw [← readOperand_eq]
  rfl

theorem resetBit_eq (n : Fin 8) (o : Operand8) (s : State) :
    resetBit n o s = (s.advance 2).writeOperand o (o.value s &&& ~~~(1#8 <<< n.val)) := by
  rw [← readOperand_eq]
  rfl

theorem setBit_eq (n : Fin 8) (o : Operand8) (s : State) :
    setBit n o s = (s.advance 2).writeOperand o (o.value s ||| 1#8 <<< n.val) := by
  rw [← readOperand_eq]
  rfl

/-! ### The statements -/

/-- Settles O54: after the fetch only the flags Z, N, H are written, Z from the bit of the operand. -/
theorem testBitSetsZ : Obligations.TestBit := by
  intro s n o
  have hz : (testBit n o s).getFlag .z = true ↔ (o.value s).toNat / 2 ^ n.val % 2 = 0 := by
    rw [testBit_eq, getFlag_setFlagsZNH, Bool.not_eq_true', getLsbD_eq_false_iff]
  exact ⟨encode_of_cbInstr (cbInstr_bit n o), _, exec_bit n o s, hz, getFlag_setFlagsZNH _ _ _ _ .n,
    getFlag_setFlagsZNH _ _ _ _ .h, rfl, rfl, (onlyChanges_advance s 2).trans (onlyChanges_setFlagsZNH _ _ _ _)⟩

/-- Settles O55: the operand is written with one bit cleared or set, and no flag. -/
theorem resetAndSetBit : Obligations.ResetAndSetBit := by
  intro s n o
  obtain ⟨hrWrote, hrRest⟩ := writeOperand_outcome (resetBit_eq n o s)
  obtain ⟨hsWrote, hsRest⟩ := writeOperand_outcome (setBit_eq n o s)
  exact ⟨⟨encode_of_cbInstr (cbInstr_res n o), _, _, exec_res n o s, hrWrote, fun _ => getLsbD_clearBit n _, hrRest⟩,
    encode_of_cbInstr (cbInstr_set n o), _, _, exec_set n o s, hsWrote, fun j _ => getLsbD_setBit n _ j, hsRest⟩

end Sys2Proof.Machine
end

section
/-! SUPPORT. The family 47_jump.md of the statements: the target of a relative jump, and the one outcome of every jump and
of every conditional jump. -/

namespace Sys2Proof.Machine

/-! ### The target and the condition -/

/-- `PC` after `n` bytes plus the sign-extended displacement is the signed sum modulo 2^16 (R251). -/
theorem advance_pc_add_sext16 (s : State) (n : Nat) (e : Byte) : (s.advance n).pc + sext16 e = relativeTarget s n e := by
  rw [relativeTarget, BitVec.ofInt_add, BitVec.ofInt_add, BitVec.ofInt_natCast, BitVec.ofInt_natCast, BitVec.ofNat_toNat,
    BitVec.setWidth_eq]
  rfl

theorem jumpRelative_advance (s : State) (n : Nat) (e : Byte) :
    (s.advance n).jumpRelative e = (s.advance n).setPc (relativeTarget s n e) :=
  congrArg (s.advance n).setPc (advance_pc_add_sext16 s n e)

/-- The model's test of a condition is `cond(cc)` of R93. -/
theorem cond_eq_true_iff (s : State) (cc : Cond) : s.cond cc = true ↔ CondHolds s cc := by
  cases cc with
  | nz => exact iff_of_eq (Bool.not_eq_true' _)
  | nc => exact iff_of_eq (Bool.not_eq_true' _)
  | z => exact Iff.rfl
  | c => exact Iff.rfl

/-! ### The encodings of the families -/

theorem encode_jpIf (cc : Cond) (nn : Word) :
    encode (Instr.jpIf cc nn) = [BitVec.ofNat 8 (0xC2 + 8 * cc.code), loByte nn, hiByte nn] := by
  cases cc <;> rfl

theorem encode_jrIf (cc : Cond) (e : Byte) :
    encode (Instr.jrIf cc e) = [BitVec.ofNat 8 (0x20 + 8 * cc.code), e] := by
  cases cc <;> rfl

/-! ### The outcome of a jump -/

theorem onlyChanges_setPc (s : State) (v : Word) : OnlyChanges s (s.setPc v) [] [] [] :=
  ⟨fun q _ => getReg_setPc s v q, fun fl _ => getFlag_setPc s v fl, fun x _ => memRead_setPc s v x,
    ⟨rfl, rfl, rfl, rfl, rfl⟩, rfl, rfl⟩

/-- A jump to `v` by an instruction of `n` bytes (R250, R251, R254). -/
theorem setPc_advance_outcome (s : State) (n : Nat) (v : Word) :
    ((s.advance n).setPc v).pc = v ∧ ((s.advance n).setPc v).sp = s.sp ∧
      OnlyChanges s ((s.advance n).setPc v) [] [] [] :=
  ⟨rfl, rfl, (onlyChanges_advance s n).trans (onlyChanges_setPc _ v)⟩

/-- A jump to `v` by an instruction of `n` bytes on condition `cc` (R252, R253). -/
theorem conditionalJump_outcome {s t : State} {cc : Cond} {n : Nat} {v : Word}
    (ht : t = if s.cond cc then (s.advance n).setPc v else s.advance n) :
    (CondHolds s cc → t.pc = v) ∧ (¬ CondHolds s cc → t.pc = s.pc + BitVec.ofNat 16 n) ∧ t.sp = s.sp ∧
      OnlyChanges s t [] [] [] := by
  subst ht
  rw [← cond_eq_true_iff]
  split
  next htaken =>
    obtain ⟨hpc, hrest⟩ := setPc_advance_outcome s n v
    exact ⟨fun _ => hpc, (absurd htaken ·), hrest⟩
  next hnot => exact ⟨(absurd · hnot), fun _ => rfl, rfl, onlyChanges_advance s n⟩

theorem jumpRelativeIf_eq (cc : Cond) (e : Byte) (s : State) :
    jumpRelativeIf cc e s = if s.cond cc then (s.advance 2).setPc (relativeTarget s 2 e) else s.advance 2 := by
  rw [jumpRelativeIf, jumpRelative_advance]

/-! ### The statements -/

/-- Settles O56: each is the fetch and one write of `PC`. -/
theorem unconditionalJumps : Obligations.UnconditionalJumps := fun s =>
  ⟨fun nn => ⟨rfl, _, rfl, setPc_advance_outcome s 3 nn⟩,
    fun e => ⟨rfl, _, congrArg Host.Outcome.next (jumpRelative_advance s 2 e), setPc_advance_outcome s 2 _⟩,
    rfl, _, rfl, setPc_advance_outcome s 1 (hl s)⟩

/-- Settles O57: each is the fetch, and a write of `PC` where the condition holds. -/
theorem conditionalJumps : Obligations.ConditionalJumps := fun s cc =>
  ⟨fun nn => ⟨encode_jpIf cc nn, _, exec_jpIf cc nn s, conditionalJump_outcome rfl⟩,
    fun e => ⟨encode_jrIf cc e, _, exec_jrIf cc e s, conditionalJump_outcome (jumpRelativeIf_eq cc e s)⟩⟩

end Sys2Proof.Machine
end

section
/-! SUPPORT. The family 48_call_restart_return.md of the statements: the one outcome of every call and of every return,
and what the condition of a conditional one decides. -/

namespace Sys2Proof.Machine

/-! ### The outcome of a call and of a return -/

theorem onlyChanges_callTo (s : State) (v : Word) : OnlyChanges s (s.callTo v) [] [] [s.sp - 2, s.sp - 1] :=
  (onlyChanges_push16 s s.pc).trans (onlyChanges_setPc _ v)

/-- `CallTo` after the fetch of `n` bytes pushes the address after them (R260, R264). -/
theorem called_callTo (s : State) (n : Nat) (v : Word) : Called s ((s.advance n).callTo v) n v := by
  have hm := advance_mem s n
  have hc := advance_config s n
  refine ⟨⟨stored_low_push16 hm hc rfl _, ?_⟩, rfl, rfl, (onlyChanges_advance s n).trans (onlyChanges_callTo _ v)⟩
  rw [addr_sub_two_succ]
  exact stored_high_push16 hm hc rfl _

/-- A return changes `PC` and `SP` alone (R262). -/
theorem onlyChanges_returnFromStack (s : State) : OnlyChanges s s.returnFromStack [] [] [] :=
  (onlyChanges_setSp s _).trans (onlyChanges_setPc _ _)

/-- A return of `n` bytes: `PC` is the word at `SP`, and `SP` is 2 more (R262). -/
theorem returnFromStack_advance_outcome (s : State) (n : Nat) :
    (s.advance n).returnFromStack.pc = wordAt s s.sp ∧ (s.advance n).returnFromStack.sp = s.sp + 2 ∧
      OnlyChanges s (s.advance n).returnFromStack [] [] [] :=
  ⟨rfl, rfl, (onlyChanges_advance s n).trans (onlyChanges_returnFromStack _)⟩

/-! ### What the condition decides (R93) -/

section

variable {s : State} {cc : Cond}

theorem callIf_of_condHolds (h : CondHolds s cc) (nn : Word) : callIf cc nn s = (s.advance 3).callTo nn :=
  if_pos ((cond_eq_true_iff s cc).2 h)

theorem callIf_of_not_condHolds (h : ¬ CondHolds s cc) (nn : Word) : callIf cc nn s = s.advance 3 :=
  if_neg (mt (cond_eq_true_iff s cc).1 h)

theorem returnIf_of_condHolds (h : CondHolds s cc) : returnIf cc s = (s.advance 1).returnFromStack :=
  if_pos ((cond_eq_true_iff s cc).2 h)

theorem returnIf_of_not_condHolds (h : ¬ CondHolds s cc) : returnIf cc s = s.advance 1 :=
  if_neg (mt (cond_eq_true_iff s cc).1 h)

end

theorem onlyChanges_returnIf (cc : Cond) (s : State) : OnlyChanges s (returnIf cc s) [] [] [] := by
  by_cases h : CondHolds s cc
  · obtain ⟨-, -, hframe⟩ := returnFromStack_advance_outcome s 1
    rwa [returnIf_of_condHolds h]
  · rw [returnIf_of_not_condHolds h]
    exact onlyChanges_advance s 1

/-! ### The encodings of the families -/

theorem encode_callIf (cc : Cond) (nn : Word) :
    encode (Instr.callIf cc nn) = [BitVec.ofNat 8 (0xC4 + 8 * cc.code), loByte nn, hiByte nn] := by
  cases cc <;> rfl

theorem encode_retIf (cc : Cond) : encode (Instr.retIf cc) = [BitVec.ofNat 8 (0xC0 + 8 * cc.code)] := by
  cases cc <;> rfl

theorem encode_rst (y : Fin 8) : encode (Instr.rst y) = [BitVec.ofNat 8 (0xC7 + 8 * y.val)] := by
  fin_cases y <;> rfl

/-- The vector is 8 times the field `y` of the opcode (R264). -/
theorem restartVector_eq (y : Fin 8) : restartVector y = BitVec.ofNat 16 (8 * y.val) :=
  congrArg (BitVec.ofNat 16) (Nat.mul_comm y.val 8)

/-! ### The statements -/

/-- Settles O58: taken it is a call, not taken the fetch alone. -/
theorem callsPushTheReturnAddress : Obligations.CallsPushTheReturnAddress := by
  intro s
  refine ⟨fun nn => ⟨rfl, _, rfl, called_callTo s 3 nn⟩, fun cc nn =>
    ⟨encode_callIf cc nn, _, exec_callIf cc nn s, fun h => ?_, fun h => ?_⟩⟩
  · rw [callIf_of_condHolds h]
    exact called_callTo s 3 nn
  · rw [callIf_of_not_condHolds h]
    exact ⟨rfl, rfl, onlyChanges_advance s 3⟩

/-- Settles O59: it is a call of the vector. -/
theorem restartCallsItsVector : Obligations.RestartCallsItsVector := by
  intro s y
  refine ⟨encode_rst y, _, exec_rst y s, ?_⟩
  rw [← restartVector_eq]
  exact called_callTo s 1 (restartVector y)

/-- Settles O60: taken it is a return, not taken the fetch alone; `RETI` writes `IME` and `IME_PENDING` after the return. -/
theorem returnsPopTheAddress : Obligations.ReturnsPopTheAddress := by
  intro s
  refine ⟨⟨rfl, _, rfl, returnFromStack_advance_outcome s 1⟩, fun cc =>
    ⟨encode_retIf cc, _, exec_retIf cc s, fun h => ?_, fun h => ?_, onlyChanges_returnIf cc s⟩, rfl, rfl⟩
  · rw [returnIf_of_condHolds h]
    exact ⟨rfl, rfl⟩
  · rw [returnIf_of_not_condHolds h]
    exact ⟨rfl, rfl⟩

end Sys2Proof.Machine
end

section
/-! SUPPORT. The families 60_exceptions.md and 70_reset_and_hazards.md of the statements: every step answers, the DecodeError
and what waits for it at `PC`, and the state at construction. -/

namespace Sys2Proof.Machine

/-! ### No other exception (R302–R305) -/

/-- No instruction ends in a fault or a refusal. -/
theorem exec_answers_next (i : Instr) (s : State) : ∃ t, exec i s = .next t := by
  obtain ⟨t, hx, -⟩ := completes i s
  exact ⟨t, hx⟩

/-! ### The DecodeError (R300) -/

/-- A DecodeError waits at `PC` exactly when the decoder answers one of the two terms that take it (R96, R97). -/
theorem decodeErrorAtPc_iff (s : State) :
    DecodeErrorAtPc s ↔ s.fetchInstr = .prefixCB ∨ ∃ op, s.fetchInstr = .unmapped op := by
  rw [DecodeErrorAtPc, or_comm, State.fetchInstr, decodeBytes_eq_prefixCB_iff]
  simp only [decodeBytes_eq_unmapped_iff, exists_eq_left]

/-- Where a DecodeError waits at `PC`, the instruction takes it, with the byte at `PC` (R300). -/
theorem exec_fetchInstr_of_decodeErrorAtPc {s : State} (h : DecodeErrorAtPc s) :
    exec s.fetchInstr s = .next (s.raiseDecodeError [s.memRead s.pc]) := by
  obtain hi | ⟨op, hi⟩ := (decodeErrorAtPc_iff s).1 h
  · obtain ⟨hb, -⟩ := decodeBytes_eq_prefixCB_iff.1 hi
    rw [hi, hb]
    rfl
  · obtain ⟨hb, -⟩ := decodeBytes_eq_unmapped_iff.1 hi
    rw [hi, hb]
    rfl

/-- A DecodeError ends the step before the commit of a delayed `EI` (R85). -/
theorem commitDelayedEi_of_faulted {s : State} (hm : s.mode = .faulted) (pend : Bool) : s.commitDelayedEi pend = s := by
  rw [commitDelayedEi_eq_ite, if_neg fun ⟨_, _, hn⟩ => hn hm]

/-- Nothing but a DecodeError enters Faulted or writes `FAULT` (R300, R302). -/
theorem Effect.not_faulted {i : Instr} {s t : State} (h : Effect i s t) (hm : s.mode ≠ .faulted)
    (hi : ¬ (i = .prefixCB ∨ ∃ op, i = .unmapped op)) : t.mode ≠ .faulted ∧ t.fault = s.fault := by
  cases h with
  | decodeError _ h => exact absurd h hi
  | halt | stop => exact ⟨by simp, rfl⟩
  | edits h =>
    obtain ⟨hmode, -, hfault, -, -⟩ := h.sameMode
    exact ⟨hmode ▸ hm, hfault⟩

/-! ### The state at construction (R330, R332) -/

theorem construct_mem (cfg : Config) : (State.construct cfg).mem = [] := by
  cases h : cfg.bootProfile <;> simp only [State.construct, h]

theorem construct_romPhase (cfg : Config) : (State.construct cfg).romPhase = .awaiting := by
  cases h : cfg.bootProfile <;> simp only [State.construct, h]

/-- Both boot profiles leave the low nibble of `F` zero (R38). -/
theorem flagsConsistent_construct (cfg : Config) : (State.construct cfg).FlagsConsistent := by
  cases h : cfg.bootProfile <;> simp [State.construct, h, State.FlagsConsistent]

theorem inv_construct (cfg : Config) : (State.construct cfg).Inv := by
  obtain ⟨-, -, hmode, -, -, hcause, hfault, hconfig, -⟩ :=
    constructionSetsEveryPieceOfState cfg
  refine ⟨?_, flagsConsistent_construct cfg, wf_construct cfg, fun _ => ?_⟩
  · simp [State.ModeConsistent, hmode, hcause, hfault]
  · rw [hconfig]

/-! ### The statements -/

/-- Settles O8: every instruction completes, so only the want of a ROM image stops the step of a Running core. -/
theorem everyStepAnswersANextState : Obligations.EveryStepAnswersANextState := by
  refine ⟨exec_answers_next, fun s h => ?_, fun s => step_without_rom⟩
  by_cases hm : s.mode = .running
  · have hr : s.romPhase = .handedOff := h.resolve_left (not_not_intro hm)
    obtain ⟨t, hx⟩ := exec_answers_next s.fetchInstr s
    exact ⟨_, by rw [step_running hm hr, hx]⟩
  · exact ⟨s, step_not_running hm⟩

/-- Settles O10: the DecodeError is the one effect of an instruction that enters Faulted, and only the terms the decoder
answers for such a byte have it. -/
theorem decodeErrorIsTakenExactlyWhenTheByteIsUnmapped :
    Obligations.DecodeErrorIsTakenExactlyWhenTheByteIsUnmapped := by
  intro s hm hr
  refine ⟨fun herr => ?_, fun herr t h => ?_⟩
  · rw [step_running hm hr, exec_fetchInstr_of_decodeErrorAtPc herr]
    exact congrArg Host.Outcome.next (commitDelayedEi_of_faulted rfl s.imePending)
  · obtain ⟨hn, -⟩ | ⟨-, -, u, hu, rfl⟩ := step_cases h
    · exact absurd hm hn
    rw [commitDelayedEi_mode, commitDelayedEi_fault]
    exact (exec_effect hu).not_faulted (by simp [hm]) (herr ∘ (decodeErrorAtPc_iff s).2)

/-- Settles O11: the meaning of both terms is the DecodeError. -/
theorem unmappedAndPrefixTakeDecodeError : Obligations.UnmappedAndPrefixTakeDecodeError := fun _ _ => ⟨rfl, rfl⟩

/-- Settles O16: construction leaves memory empty and the hand-off awaited, and meets each part of the invariant. -/
theorem constructionMeetsTheInvariant : Obligations.ConstructionMeetsTheInvariant := by
  refine ⟨fun cfg => ⟨inv_construct cfg, construct_romPhase cfg, fun x _ => ?_⟩, inv_construct Config.default, rfl⟩
  rw [State.memRead, construct_mem]
  rfl

end Sys2Proof.Machine
end
